-- ==== Sys2Proof/Word.lean ====
section
/-! DEFINITION. The byte of the section link and the frame that carries a telegram (R75). -/

namespace Sys2Proof

/-- One byte on the section link. -/
abbrev Byte := BitVec 8

/-- The bytes of one frame, in the order in which they stand on the link (Table 10-1). -/
abbrev Frame := List Byte

end Sys2Proof
end

