-- ==== Sys2Proof/Config.lean ====
section
/-! DEFINITION. What the manual leaves open: one opaque constant with no body, applied by the machine to a plain
counter of State so that every use is a value of its own. -/

namespace Sys2Proof

/-- A free byte. The manual states no value for the two program fields of READ SLOT when the slot holds a program that
the active Sequence Table no longer defines (Table 10-5, R134). Log entry 12. -/
opaque Config.freeByte : Nat → Byte

end Sys2Proof
end

