-- ==== Sys2Proof/Syntax.lean ====
section
/-! DEFINITION. The commands of the block: one constructor per row of spec/opcode_table.json. A row of the telegram path
carries what arrives at the port; a request row carries nothing, because its arguments stand in the request telegram that
holds the service place of the Management Unit (R176); an expiry row carries the slot, point or run it concerns. -/

namespace Sys2Proof

/-- The two link ports (section 1.2 of the scope chapter): A faces the control unit, B faces the field nodes. -/
inductive Port where
  | a
  | b
deriving DecidableEq, Repr

/-- A byte that arrives as a link reply (R80). The manual gives the two replies no code, so a byte is one of them or
neither. Log entry 6. -/
inductive ReplyByte where
  | accept
  | wait
  | other
deriving DecidableEq, Repr

/-- The part of a second event that one block carries out. -/
inductive SecondWork where
  /-- The Run Tracker: pending commit, section clock, flow ages, advance (R21). -/
  | tracker
  /-- The Passage Matcher: hold-off countdowns (R54). -/
  | holdOff
  /-- The Interlock: travel countdowns (R107). -/
  | travel
  /-- The Scan Unit: the scan interval countdown (R153). -/
  | scan
  /-- The Sequence Unit: its slots in order of slot number (R137). -/
  | slots
deriving DecidableEq, Repr

/-- The commands: everything that can happen to the controller, one constructor per row of the table. -/
inductive Instr where
  /-- POWER_ON (R189), with the strap lines as they stand when they are read. -/
  | powerOn (straps : BitVec 7)
  /-- WARM_RESTART (R188), with the strap lines as they stand when they are read. -/
  | warmRestart (straps : BitVec 7)
  /-- WARM_RESTART_INPUT (R98): a low pulse of the input, its length in microseconds, and the strap lines. -/
  | warmRestartInput (lowMicros : Nat) (straps : BitVec 7)
  /-- LINK_CLEAR_INPUT (R95): a low pulse of the input, its length in microseconds. -/
  | linkClearInput (lowMicros : Nat)
  /-- PORT_A_RECEIVE (R82): a frame ends on Port A with these bytes. -/
  | portAReceive (bytes : Frame)
  /-- PORT_B_RECEIVE (R83): a frame ends on Port B with these bytes. -/
  | portBReceive (bytes : Frame)
  /-- PORT_B_GRANT (R90). -/
  | portBGrant
  /-- PORT_A_GRANT (R94). -/
  | portAGrant
  /-- LINK_REPLY (R80): a reply byte arrives on a port. -/
  | linkReply (port : Port) (reply : ReplyByte)
  /-- REPLY_TIMEOUT (R80): the 10 ms after a telegram run out. -/
  | replyTimeout (port : Port)
  /-- REPEAT (R80): the 20 ms after a refusal run out. -/
  | repeatTelegram (port : Port)
  /-- REPEAT_PLACE_TAKEN (R92). -/
  | repeatPlaceTaken
  /-- TELEGRAM_DISCARD (R81). -/
  | telegramDiscard (port : Port)
  /-- SLOT_ORDER_PLACED (R136). -/
  | slotOrderPlaced (slot : Nat)
  /-- SECOND_EVENT (R21), with the order in which the blocks take their part of it. Log entry 3. -/
  | secondEvent (order : List SecondWork)
  /-- COMMIT_ANSWER (R87). -/
  | commitAnswer
  /-- FLOW_STALE (R25), of the flow record of a METER point. -/
  | flowStale (point : Nat)
  /-- STALL (R43), of the run with this id. -/
  | stall (run : Nat)
  /-- HOLD_OFF_EXPIRY (R54), at a DETECTOR point. -/
  | holdOffExpiry (point : Nat)
  /-- VALVE_MISMATCH (R107), at a VALVE point. -/
  | valveMismatch (point : Nat)
  /-- ROUND_START (R154). -/
  | roundStart
  /-- DWELL_END (R137). -/
  | dwellEnd (slot : Nat)
  /-- STEP_TIMEOUT (R138). -/
  | stepTimeout (slot : Nat)
  /-- SPACING_END (R144). -/
  | spacingEnd (slot : Nat)
  /-- READ_STATUS (R178): the Management Unit serves the request in service, if it is this one. -/
  | readStatus
  /-- SET_MODE (R184). -/
  | setMode
  /-- SET_CONFIG (R179). -/
  | setConfig
  /-- SET_TIME (R180). -/
  | setTime
  /-- ACK_CONDITIONS (R182). -/
  | ackConditions
  /-- LINK_CLEAR (R95), the request. -/
  | linkClear
  /-- RESTART (R187), the request. -/
  | restart
  /-- LOAD_POINT (R10). -/
  | loadPoint
  /-- LOAD_CLASS (R11). -/
  | loadClass
  /-- LOAD_PROGRAM (R124). -/
  | loadProgram
  /-- LOAD_STEP (R124). -/
  | loadStep
  /-- CLEAR_SHADOW (R12). -/
  | clearShadow
  /-- COMMIT (R14). -/
  | commit
  /-- READ_TABLE_RECORD (R13). -/
  | readTableRecord
  /-- READ_RUN (R35). -/
  | readRun
  /-- ADOPT_RUN (R32). -/
  | adoptRun
  /-- ABANDON_RUN (R33). -/
  | abandonRun
  /-- REPOSITION_RUN (R34). -/
  | repositionRun
  /-- ARM (R129). -/
  | arm
  /-- START (R130). -/
  | start
  /-- SET_PERMIT (R131). -/
  | setPermit
  /-- END (R131). -/
  | endTrain
  /-- ABORT (R132). -/
  | abort
  /-- RESUME (R133). -/
  | resume
  /-- RETRY (R130). -/
  | retry
  /-- LOAD_CHAIN (R134). -/
  | loadChain
  /-- READ_SLOT (R134). -/
  | readSlot
  /-- READ_VALVE (R104). -/
  | readValve
  /-- READ_NODE (R160). -/
  | readNode
  /-- READ_FLOW (R26). -/
  | readFlow
  /-- LOAD_WATCH (R168). -/
  | loadWatch
  /-- READ_LOG (R171). -/
  | readLog
  /-- LOG_RESUME (R167). -/
  | logResume
  /-- FRAME_START (R79). -/
  | frameStart (port : Port)
  /-- TRANSMISSION_END (R80). -/
  | transmissionEnd (port : Port)
  /-- POWER_LOSS (R98). -/
  | powerLoss
deriving DecidableEq, Repr

end Sys2Proof
end

