-- ==== Sys2Proof/WellFormed.lean ====
section
/-! DEFINITION. Which commands are well formed: a slot is 0 to 3 (R126), a point index 0 to 63 (R1), a run id 1 to 255
(R27), and a second event names the part of each of the five blocks exactly once (log entry 3). A received frame may
have any bytes at all: judging it is the port's own work (R77). -/

namespace Sys2Proof

/-- The parts of a second event. -/
def SecondWork.all : List SecondWork := [.tracker, .holdOff, .travel, .scan, .slots]

/-- The second event names each block's part exactly once, in some order. -/
def SecondWork.wf (order : List SecondWork) : Bool :=
  order.length == 5 && SecondWork.all.all (fun w => order.contains w)

/-- A slot number (R126). -/
def slotWf (k : Nat) : Bool := decide (k < 4)

/-- A point index (R1). -/
def pointWf (p : Nat) : Bool := decide (p < 64)

/-- A run id (Table 2-1). -/
def runWf (r : Nat) : Bool := decide (1 ≤ r) && decide (r ≤ 255)

/-- The check of a command's operands. -/
def Instr.wf : Instr → Bool
  | .secondEvent order => SecondWork.wf order
  | .slotOrderPlaced k => slotWf k
  | .dwellEnd k => slotWf k
  | .stepTimeout k => slotWf k
  | .spacingEnd k => slotWf k
  | .flowStale p => pointWf p
  | .holdOffExpiry p => pointWf p
  | .valveMismatch p => pointWf p
  | .stall r => runWf r
  | .powerOn _ => true
  | .warmRestart _ => true
  | .warmRestartInput _ _ => true
  | .linkClearInput _ => true
  | .portAReceive _ => true
  | .portBReceive _ => true
  | .portBGrant => true
  | .portAGrant => true
  | .linkReply _ _ => true
  | .replyTimeout _ => true
  | .repeatTelegram _ => true
  | .repeatPlaceTaken => true
  | .telegramDiscard _ => true
  | .commitAnswer => true
  | .roundStart => true
  | .readStatus => true
  | .setMode => true
  | .setConfig => true
  | .setTime => true
  | .ackConditions => true
  | .linkClear => true
  | .restart => true
  | .loadPoint => true
  | .loadClass => true
  | .loadProgram => true
  | .loadStep => true
  | .clearShadow => true
  | .commit => true
  | .readTableRecord => true
  | .readRun => true
  | .adoptRun => true
  | .abandonRun => true
  | .repositionRun => true
  | .arm => true
  | .start => true
  | .setPermit => true
  | .endTrain => true
  | .abort => true
  | .resume => true
  | .retry => true
  | .loadChain => true
  | .readSlot => true
  | .readValve => true
  | .readNode => true
  | .readFlow => true
  | .loadWatch => true
  | .readLog => true
  | .logResume => true
  | .frameStart _ => true
  | .transmissionEnd _ => true
  | .powerLoss => true

end Sys2Proof
end

