-- ==== Sys2Proof/Machine/State.lean ====
section
/-! DEFINITION. The state of the controller, block by block as Table 0-1 of the scope chapter lists the blocks, its reset
value, and the reasons a command can stop. Plain data throughout. -/

namespace Sys2Proof.Machine

/-- A thing of which there are four, one per sequence slot (R126, R89). -/
structure Four (α : Type) where
  s0 : α
  s1 : α
  s2 : α
  s3 : α
deriving DecidableEq, Repr

/-- A slot number (R126). -/
abbrev SlotId := Fin 4

/-! ### The loaded tables -/

/-- Trap role (Table 1-2). -/
inductive TrapRole where
  | launcher
  | receiver
  | both
deriving DecidableEq, Repr

/-- Valve role (Table 1-2). -/
inductive ValveRole where
  | mainline
  | bypass
  | launch
  | receive
  | kicker
deriving DecidableEq, Repr

/-- The valve part of a point (R4). Distances in metres, the travel limit in seconds. -/
structure ValvePart where
  role : ValveRole
  approach : Nat
  clearance : Nat
  travel : Nat
  trapRef : Option Nat
deriving DecidableEq, Repr

/-- The optional part of a point, one form per kind (R3, Table 1-2). -/
inductive Part where
  | trap (role : TrapRole)
  | valve (part : ValvePart)
  | detector (channel holdOff : Nat)
  | meter (hold : Nat)
  | endPoint
deriving DecidableEq, Repr

/-- The stretch fields of a point (R2): bore factor in square centimetres, maximum speed in mm/s, flow source. -/
structure Stretch where
  bore : Nat
  umax : Nat
  source : Option Nat
deriving DecidableEq, Repr

/-- A point of the Line Map (R1, Table 1-1). Chainage in metres. -/
structure Point where
  chainage : Nat
  node : Option Nat
  supervise : Bool
  stretch : Option Stretch
  part : Part
deriving DecidableEq, Repr

/-- A class record (R7, Table 1-3). Bands in metres. -/
structure PigClass where
  slip0 : Nat
  band0 : Nat
  growth : Nat
  bandMax : Nat
  stallLimit : Nat
deriving DecidableEq, Repr

/-- Program kind (Table 6-1). -/
inductive ProgramKind where
  | launch
  | receive
deriving DecidableEq, Repr

/-- A program record (R122, Table 6-1). -/
structure Program where
  kind : ProgramKind
  trap : Nat
  first : Nat
  count : Nat
deriving DecidableEq, Repr

/-- Step action (Table 6-3). -/
inductive Action where
  | openValve
  | closeValve
  | verifyOpen
  | verifyClosed
  | dwell
  | insertRun
  | awaitPassage
  | awaitApproach
  | removeRun
  | endCycle
deriving DecidableEq, Repr

/-- A step record (R122, Table 6-2). -/
structure StepRec where
  action : Action
  operand : Option Nat
  value : Nat
  timeout : Nat
  continueOn : Bool
deriving DecidableEq, Repr

/-- The Sequence Table: 16 program places and 128 step places (R122). -/
structure SeqTable where
  programs : List (Option Program)
  steps : List (Option StepRec)
deriving DecidableEq, Repr

/-- One copy, active or shadow, of the three loaded tables (R9). -/
structure Tables where
  lineMap : List Point
  classes : List (Option PigClass)
  seq : SeqTable
deriving DecidableEq, Repr

/-- The three tables that are committed (R14). -/
inductive TableId where
  | lineMap
  | classes
  | sequence
deriving DecidableEq, Repr

/-- Direction of a watch entry (Table 8-3). -/
inductive WatchDir where
  | down
  | up
  | either
deriving DecidableEq, Repr

/-- A watch entry (R168, Table 8-3). No kind means ANY. -/
structure WatchEntry where
  enabled : Bool
  node : Nat
  mask : Nat
  kind : Option Nat
  dir : WatchDir
  freeze : Bool
deriving DecidableEq, Repr

/-- The Table Store (Table 0-1). -/
structure TableStore where
  active : Tables
  shadow : Tables
  pendingCommit : Option TableId
  watch : List WatchEntry
deriving DecidableEq, Repr

/-! ### The Run Tracker -/

/-- A set of the eleven anomaly kinds: bit n is the kind with code n (R47). -/
abbrev AnomalySet := BitVec 11

/-- State of a flow record (R23). -/
inductive FlowState where
  | none
  | live
  | stale
deriving DecidableEq, Repr

/-- The flow record of a METER point (R23). -/
structure FlowRec where
  point : Nat
  q : Nat
  state : FlowState
  rev : Bool
  age : Nat
deriving DecidableEq, Repr

/-- State of a run (Table 2-2). -/
inductive RunState where
  | moving
  | halted
  | stalled
  | lost
deriving DecidableEq, Repr

/-- How a run entered the table (Table 2-1). -/
inductive Origin where
  | launched (slot : SlotId)
  | adopted
deriving DecidableEq, Repr

/-- A run record (R27, Table 2-1). Position, band and flow distance in mm, speed in mm/s, slip in per-mille. -/
structure Run where
  id : Nat
  cls : Nat
  state : RunState
  position : Nat
  speed : Nat
  slip : Nat
  band : Nat
  flowDist : Nat
  lastFix : Nat
  nextDet : Option Nat
  misses : Nat
  halted : Nat
  zoneValve : Option Nat
  current : AnomalySet
  accrued : AnomalySet
  alarmed : AnomalySet
  origin : Origin
  bound : Option SlotId
  insertedAt : BitVec 32
deriving DecidableEq, Repr

/-- The Run Tracker (Table 0-1). -/
structure Tracker where
  clock : BitVec 32
  flows : List FlowRec
  runs : List Run
  lastId : Nat
  inserted : BitVec 32
  received : BitVec 32
  exited : BitVec 32
  abandoned : BitVec 32
deriving DecidableEq, Repr

/-! ### The Passage Matcher and the Interlock -/

/-- The detector record of a DETECTOR point (R52). -/
structure DetectorRec where
  point : Nat
  holdOff : Nat
  duplicates : Nat
  covered : Bool
deriving DecidableEq, Repr

/-- The Passage Matcher (Table 0-1). -/
structure Matcher where
  detectors : List DetectorRec
deriving DecidableEq, Repr

/-- Believed state of a valve (Table 5-1). -/
inductive ValveState where
  | unknown
  | opened
  | closed
  | opening
  | closing
  | stopped
  | failed
deriving DecidableEq, Repr

/-- Control location of a valve (Table 5-1). -/
inductive Location where
  | remote
  | localControl
  | unknown
deriving DecidableEq, Repr

/-- Who issued an order (Table 5-1, R93). -/
inductive Originator where
  | control
  | slot (k : SlotId)
deriving DecidableEq, Repr

/-- The end position an order asks for (Table 5-1). -/
inductive Target where
  | opened
  | closed
deriving DecidableEq, Repr

/-- An expected order (Table 5-1). -/
structure Expected where
  target : Target
  remaining : Nat
  originator : Originator
deriving DecidableEq, Repr

/-- The valve record of a VALVE point (R99, Table 5-1). -/
structure ValveRec where
  point : Nat
  state : ValveState
  percent : Nat
  location : Location
  lastTag : Nat
  suspect : Bool
  expected : Option Expected
  reserving : Option SlotId
deriving DecidableEq, Repr

/-- The Interlock (Table 0-1). -/
structure Interlock where
  valves : List ValveRec
deriving DecidableEq, Repr

/-! ### The Sequence Unit and the Scan Unit -/

/-- State of a slot (Table 6-5). -/
inductive SlotState where
  | idle
  | armed
  | running
  | spacing
  | waitStart
  | observe
  | failed
deriving DecidableEq, Repr

/-- Mode of a train (Table 6-5). -/
inductive TrainMode where
  | single
  | train
  | permissive
deriving DecidableEq, Repr

/-- State of the order of the current step (Table 6-5). -/
inductive StepOrder where
  | none
  | awaitingPlace
  | queued
  | delivered
  | lost
deriving DecidableEq, Repr

/-- Termination causes (Table 6-7). -/
inductive Cause where
  | count
  | endRequest
  | permitWithdrawn
  | stepFailed
  | takeover
  | abort
  | modeChange
  | warmRestart
deriving DecidableEq, Repr

/-- A chain record (Table 6-5). -/
structure Chain where
  cls : Nat
  mode : TrainMode
  base : Nat
  spacing : Nat
deriving DecidableEq, Repr

/-- A slot record (R126, Table 6-5). -/
structure Slot where
  state : SlotState
  program : Option Nat
  cls : Nat
  mode : TrainMode
  base : Nat
  count : Nat
  spacing : Nat
  autoRepeat : Bool
  chain : Option Chain
  permit : Bool
  endRequested : Bool
  step : Option Nat
  countdown : Nat
  order : StepOrder
  bound : Option Nat
  reserved : List Nat
  cause : Option Cause
deriving DecidableEq, Repr

/-- The Sequence Unit (Table 0-1). -/
structure SeqUnit where
  slots : Four Slot
deriving DecidableEq, Repr

/-- Health of a node (Table 7-1). -/
inductive Health where
  | good
  | degraded
  | failed
deriving DecidableEq, Repr

/-- The node record of a supervised node (R151, Table 7-1). -/
structure NodeRec where
  node : Nat
  heard : Bool
  missed : Nat
  silent : Bool
  health : Health
deriving DecidableEq, Repr

/-- The Scan Unit (Table 0-1). -/
structure Scan where
  nodes : List NodeRec
  pollList : List Nat
  countdown : Nat
deriving DecidableEq, Repr

/-! ### The Event Log -/

/-- Log record kinds (Table 8-1). -/
inductive LogKind where
  | runInserted
  | runAdopted
  | runReceived
  | runExited
  | runAbandoned
  | runRepositioned
  | passageMatched
  | passageOrphan
  | detectorMissed
  | runLost
  | anomalyAlarm
  | orderForwarded
  | orderRejected
  | valveStateChanged
  | valveMismatch
  | uncommandedMove
  | nodeSilent
  | slotEnded
  | watchHit
  | modeChanged
deriving DecidableEq, Repr

/-- A log record (R162). Run, point, slot and detail are the numbers the record carries: 0, 255 and 255 mean none. -/
structure LogRecord where
  time : BitVec 32
  kind : LogKind
  run : Nat
  point : Nat
  slot : Nat
  detail : Nat
deriving DecidableEq, Repr

/-- Write index and valid count of a circle (R163). -/
structure Circle where
  write : Nat
  valid : Nat
deriving DecidableEq, Repr

/-- Log mode (Table 8-2). -/
inductive LogMode where
  | off
  | track
  | traffic
  | mixed
deriving DecidableEq, Repr

/-- The Event Log (Table 0-1): 256 places, three circles, the freeze state. -/
structure EventLog where
  places : List (Option LogRecord)
  lower : Circle
  upper : Circle
  whole : Circle
  frozen : Bool
deriving DecidableEq, Repr

/-! ### The Management Unit -/

/-- The configuration items (Table 9-3). A full policy is DROP when its field is true, HOLD otherwise; the Port B
priority is ROTATING when its field is true, FIXED otherwise. -/
structure Config where
  managerNode : Nat
  alertNode : Nat
  alertEnables : BitVec 13
  alarmMask : AnomalySet
  downDrop : Bool
  upDrop : Bool
  rotating : Bool
  scanInterval : Nat
  logMode : LogMode
  freezeOnAlarm : Bool
deriving DecidableEq, Repr

/-- Operating mode (R184). -/
inductive Mode where
  | transparent
  | monitor
  | guarded
deriving DecidableEq, Repr

/-- A management request in the input slot (R176): who sent it, its tag and its payload. -/
structure Request where
  source : Nat
  tag : Byte
  payload : List Byte
deriving DecidableEq, Repr

/-- How far the request in service has come. -/
inductive ServePhase where
  /-- Not served yet (R176). -/
  | unserved
  /-- A COMMIT that was taken and waits for the second event (R14). -/
  | commitTaken
  /-- A COMMIT that was applied and whose answer (status code and data) waits for a place (R87). -/
  | commitApplied (status : Nat) (data : List Byte)
  /-- A RESTART whose answer stands in the answer queue (R187). -/
  | restartAnswered
deriving DecidableEq, Repr

/-- The service place of the input slot. -/
structure Service where
  request : Request
  phase : ServePhase
deriving DecidableEq, Repr

/-- The Management Unit (Table 0-1). -/
structure Mgmt where
  config : Config
  mode : Mode
  conditions : BitVec 13
  service : Option Service
  waiting : Option Request
deriving DecidableEq, Repr

/-! ### The ports -/

/-- A link reply (R79). -/
inductive Reply where
  | accept
  | wait
deriving DecidableEq, Repr

/-- What a port puts on the link: a telegram, each attempt once, or a link reply. The model's own record (log entry 7). -/
inductive Wire where
  | telegram (frame : Frame)
  | reply (r : Reply)
deriving DecidableEq, Repr

/-- Where the telegram that holds a port comes from (Table 4-4). -/
inductive TxSource where
  | answer
  | alert
  | up
  | down
  | slot (k : SlotId)
  | poll
deriving DecidableEq, Repr

/-- How far a transmission has come (R80, R92). -/
inductive TxPhase where
  /-- The telegram's bytes are going out. -/
  | sending
  /-- The last byte is out and the 10 ms for the reply run. -/
  | awaiting
  /-- The attempt was refused: the 20 ms before a repeat run, or the discard is due. -/
  | refused
  /-- The repeat waits for a place of the answer queue (R92). -/
  | waitingPlace
deriving DecidableEq, Repr

/-- The telegram that holds a port. -/
structure Tx where
  source : TxSource
  frame : Frame
  phase : TxPhase
  refusals : Nat
  /-- A place of the answer queue is held for this control-unit order (R92). -/
  placeHeld : Bool
  /-- ORDER FORWARDED was written for this order (R116). -/
  logged : Bool
deriving DecidableEq, Repr

/-- What the two ports have in common (R77, R79, R80). -/
structure Link where
  receiving : Bool
  abandoned : Bool
  checkErrors : Nat
  tx : Option Tx
  deferred : List Reply
  wire : List Wire
deriving DecidableEq, Repr

/-- An entry of the answer queue (R87), marked when it is the answer of a RESTART (R187). -/
structure Answer where
  frame : Frame
  restart : Bool
deriving DecidableEq, Repr

/-- The ALERT in the pending place (R88). Its check is computed when it is granted. -/
structure Alert where
  dest : Nat
  word : BitVec 16
  clock : BitVec 32
deriving DecidableEq, Repr

/-- Port A (Table 0-1). -/
structure PortA where
  link : Link
  down : List Frame
  answers : List Answer
  alert : Option Alert
deriving DecidableEq, Repr

/-- An order in its slot's place of the sequence order queue (R89). -/
structure SlotOrder where
  frame : Frame
  /-- Its first attempt has begun. -/
  begun : Bool
  /-- ORDER FORWARDED was written for it (R116). -/
  logged : Bool
deriving DecidableEq, Repr

/-- Port B (Table 0-1). -/
structure PortB where
  link : Link
  up : List Frame
  orders : Four (Option SlotOrder)
  burst : Nat
  turnForward : Bool
deriving DecidableEq, Repr

/-- The hardware lines (R98) and the node number read from them (R186). -/
structure Lines where
  straps : BitVec 7
  nodeNumber : Option Nat
  bypassClosed : Bool
deriving DecidableEq, Repr

/-! ### The whole -/

/-- The state of the controller. -/
structure State where
  tables : TableStore
  tracker : Tracker
  matcher : Matcher
  interlock : Interlock
  seq : SeqUnit
  scan : Scan
  log : EventLog
  mgmt : Mgmt
  portA : PortA
  portB : PortB
  lines : Lines
  /-- The model's own: how many free values were used (log entry 12). -/
  fresh : Nat
  /-- The commands that wait, first in, first out. -/
  pending : List Instr
deriving DecidableEq, Repr

/-- Why the machine stops with a fault: it never does. The manual gives the block no fault, so there is no reason. -/
inductive Fault where
deriving DecidableEq, Repr

/-- Why a command is refused. -/
inductive Refusal where
  /-- Raised by `exec` for a row that has no meaning yet. Safe: nothing is claimed of it. No row is in this case. -/
  | notModelled (mnemonic : String)
  /-- Raised by a meaning whose operands are not well formed (`Instr.wf`): a slot above 3, a point above 63, a run id of
  0 or above 255, a second event that does not name each block once. Safe: such an event cannot happen (log entry 34). -/
  | illFormed
deriving DecidableEq, Repr

/-! ### Power-on values -/

/-- An empty copy of the loaded tables (Table 1-6). -/
def Tables.empty : Tables :=
  { lineMap := [], classes := List.replicate 8 none,
    seq := { programs := List.replicate 16 none, steps := List.replicate 128 none } }

/-- A watch entry after power-on (R168). -/
def WatchEntry.initial : WatchEntry :=
  { enabled := false, node := 0, mask := 0, kind := none, dir := .either, freeze := false }

/-- A slot after power-on (Table 6-5). -/
def Slot.initial : Slot :=
  { state := .idle, program := none, cls := 0, mode := .single, base := 1, count := 1, spacing := 0,
    autoRepeat := false, chain := none, permit := false, endRequested := false, step := none, countdown := 0,
    order := .none, bound := none, reserved := [], cause := none }

/-- The configuration after power-on (Table 9-3). -/
def Config.initial : Config :=
  { managerNode := 0, alertNode := 0, alertEnables := 8191#13, alarmMask := 112#11, downDrop := false, upDrop := false,
    rotating := true, scanInterval := 30, logMode := .mixed, freezeOnAlarm := true }

/-- An empty log (Table 8-4). -/
def EventLog.initial : EventLog :=
  { places := List.replicate 256 none, lower := ⟨0, 0⟩, upper := ⟨0, 0⟩, whole := ⟨0, 0⟩, frozen := false }

/-- A port's link after power-on (Table 4-9). -/
def Link.initial : Link :=
  { receiving := false, abandoned := false, checkErrors := 0, tx := none, deferred := [], wire := [] }

/-- The straps at reset (log entry 5). -/
def resetStraps : BitVec 7 := 2#7

/-- The machine right after power-on initialisation (R189). -/
def State.reset : State :=
  { tables := { active := Tables.empty, shadow := Tables.empty, pendingCommit := none,
                watch := List.replicate 8 WatchEntry.initial }
    tracker := { clock := 0#32, flows := [], runs := [], lastId := 0, inserted := 0#32, received := 0#32,
                 exited := 0#32, abandoned := 0#32 }
    matcher := { detectors := [] }
    interlock := { valves := [] }
    seq := { slots := ⟨Slot.initial, Slot.initial, Slot.initial, Slot.initial⟩ }
    scan := { nodes := [], pollList := [], countdown := 0 }
    log := EventLog.initial
    mgmt := { config := Config.initial, mode := .transparent, conditions := 0#13, service := none, waiting := none }
    portA := { link := Link.initial, down := [], answers := [], alert := none }
    portB := { link := Link.initial, up := [], orders := ⟨none, none, none, none⟩, burst := 0, turnForward := false }
    lines := { straps := resetStraps, nodeNumber := some 2, bypassClosed := false }
    fresh := 0
    pending := [] }

end Sys2Proof.Machine
end

