-- ==== Sys2Proof/Machine/Operands.lean ====
section
/-! DEFINITION. Operand forms: the bytes of telegrams and records (chapter 10), the check (R76), the codes of every
coded field, and the reading of every received field with its treatment out of range (R192). -/

namespace Sys2Proof.Machine

/-! ### Bytes -/

/-- A number as one byte. -/
def byte (n : Nat) : Byte := BitVec.ofNat 8 n

/-- A two-byte field, most significant byte first (R191). -/
def put16 (n : Nat) : List Byte := [byte (n / 256), byte n]

/-- A four-byte field, most significant byte first (R191). -/
def put32 (n : Nat) : List Byte := [byte (n / 16777216), byte (n / 65536), byte (n / 256), byte n]

/-- The byte at an offset, as a number; 0 beyond the end. -/
def byteAt (bs : List Byte) (i : Nat) : Nat := (bs.getD i 0#8).toNat

/-- The two-byte field at an offset (R191). -/
def be16 (bs : List Byte) (i : Nat) : Nat := byteAt bs i * 256 + byteAt bs (i + 1)

/-- The four-byte field at an offset (R191). -/
def be32 (bs : List Byte) (i : Nat) : Nat := be16 bs i * 65536 + be16 bs (i + 2)

/-- A flag as a byte (R191). -/
def flagByte (b : Bool) : Byte := if b then 1#8 else 0#8

/-- An optional index as a byte: 255 stands for absent (R191). -/
def optByte (o : Option Nat) : Byte := byte (o.getD 255)

/-- The absent value of a node number or run id is 0 (R191). -/
def optByteZero (o : Option Nat) : Byte := byte (o.getD 0)

/-- A received index byte: 255 is absent (R191). -/
def indexOfByte (n : Nat) : Option Nat := if n = 255 then none else some n

/-! ### The check -/

/-- One bit of the cyclic redundancy check: generator x^16 + x^12 + x^5 + 1 (R76). -/
def crcBit (r : BitVec 16) : BitVec 16 := if r.msb then (r <<< 1) ^^^ 0x1021#16 else r <<< 1

/-- One byte of the check, most significant bit first (R76). -/
def crcByte (r : BitVec 16) (b : Byte) : BitVec 16 :=
  crcBit (crcBit (crcBit (crcBit (crcBit (crcBit (crcBit (crcBit (r ^^^ (b.setWidth 16 <<< 8)))))))))

/-- The check over a list of bytes, the remainder preset to all ones (R76). -/
def crc (bs : List Byte) : BitVec 16 := bs.foldl crcByte 0xFFFF#16

/-! ### The telegram frame (Table 10-1) -/

/-- The destination byte of a telegram. -/
def frameDest (f : Frame) : Nat := byteAt f 0
/-- The source byte. -/
def frameSource (f : Frame) : Nat := byteAt f 1
/-- The kind byte. -/
def frameKind (f : Frame) : Nat := byteAt f 2
/-- The tag byte. -/
def frameTag (f : Frame) : Byte := f.getD 3 0#8
/-- The length byte. -/
def frameLength (f : Frame) : Nat := byteAt f 4
/-- The payload: as many bytes as the length says, from byte 5 on. -/
def framePayload (f : Frame) : List Byte := (f.drop 5).take (frameLength f)

/-- A received frame is bad (R77). A source above 127 is no node number and is judged as 0 and 127 are (log entry 10).
A destination above 127 is not among R77's conditions and leaves a telegram good (log entry 40). -/
def frameBad (f : Frame) : Bool :=
  f.length < 7 || 55 < f.length || f.length ≠ frameLength f + 7 ||
  crc (f.take (f.length - 2)) ≠ BitVec.ofNat 16 (be16 f (f.length - 2)) ||
  frameSource f = 0 || 127 ≤ frameSource f

/-- A telegram the controller makes: its fields and a fresh check (R75, R191). -/
def mkFrame (dest source kind : Nat) (tag : Byte) (payload : List Byte) : Frame :=
  let body := [byte dest, byte source, byte kind, tag, byte payload.length] ++ payload
  body ++ put16 (crc body).toNat

/-- VALVE ORDER (Table 4-2). -/
def kindValveOrder : Nat := 17
/-- POLL. -/
def kindPoll : Nat := 18
/-- VALVE STATE. -/
def kindValveState : Nat := 33
/-- PASSAGE. -/
def kindPassage : Nat := 34
/-- FLOW REPORT. -/
def kindFlowReport : Nat := 35
/-- NODE STATE. -/
def kindNodeState : Nat := 36
/-- REJECT. -/
def kindReject : Nat := 49
/-- MGMT REQUEST. -/
def kindRequest : Nat := 64
/-- MGMT ANSWER. -/
def kindAnswer : Nat := 65
/-- ALERT. -/
def kindAlert : Nat := 66

/-- The broadcast node number (R78). -/
def broadcast : Nat := 127

/-- A VALVE ORDER whose payload has at least the layout of Table 10-2: the orders that the Interlock checks (R92). -/
def isFullOrder (f : Frame) : Bool := frameKind f = kindValveOrder && 2 ≤ (framePayload f).length

/-- The action code of a VALVE ORDER. -/
def orderAction (f : Frame) : Nat := byteAt (framePayload f) 0
/-- The order tag of a VALVE ORDER. -/
def orderTag (f : Frame) : Nat := byteAt (framePayload f) 1
/-- Action code OPEN (Table 10-2). -/
def actionOpen : Nat := 1
/-- Action code CLOSE. -/
def actionClose : Nat := 2
/-- Action code STOP. -/
def actionStop : Nat := 3

/-! ### Codes -/

/-- Codes of the believed state (Table 5-1). -/
def ValveState.code : ValveState → Nat
  | .unknown => 0
  | .opened => 1
  | .closed => 2
  | .opening => 3
  | .closing => 4
  | .stopped => 5
  | .failed => 6

/-- A reported position state; any code outside 1 to 6 is taken as FAULT (R101, R192). -/
def ValveState.ofReport : Nat → ValveState
  | 1 => .opened
  | 2 => .closed
  | 3 => .opening
  | 4 => .closing
  | 5 => .stopped
  | _ => .failed

/-- Codes of the control location (Table 5-1). -/
def Location.code : Location → Nat
  | .remote => 0
  | .localControl => 1
  | .unknown => 2

/-- A reported location; any code but REMOTE is taken as LOCAL (R101, R192). -/
def Location.ofReport : Nat → Location
  | 0 => .remote
  | _ => .localControl

/-- Codes of a target: OPEN 1, CLOSED 2 (R121). -/
def Target.code : Target → Nat
  | .opened => 1
  | .closed => 2

/-- The end position a target names. -/
def Target.state : Target → ValveState
  | .opened => .opened
  | .closed => .closed

/-- Codes of the valve roles (Table 10-4). -/
def ValveRole.code : ValveRole → Nat
  | .mainline => 1
  | .bypass => 2
  | .launch => 3
  | .receive => 4
  | .kicker => 5

/-- The role of a code. -/
def ValveRole.ofCode : Nat → Option ValveRole
  | 1 => some .mainline
  | 2 => some .bypass
  | 3 => some .launch
  | 4 => some .receive
  | 5 => some .kicker
  | _ => none

/-- Codes of the trap roles (Table 10-4). -/
def TrapRole.code : TrapRole → Nat
  | .launcher => 1
  | .receiver => 2
  | .both => 3

/-- The trap role of a code. -/
def TrapRole.ofCode : Nat → Option TrapRole
  | 1 => some .launcher
  | 2 => some .receiver
  | 3 => some .both
  | _ => none

/-- Codes of the point kinds (Table 10-4). -/
def Part.code : Part → Nat
  | .trap _ => 1
  | .valve _ => 2
  | .detector _ _ => 3
  | .meter _ => 4
  | .endPoint => 5

/-- Codes of the program kinds (Table 6-1). -/
def ProgramKind.code : ProgramKind → Nat
  | .launch => 1
  | .receive => 2

/-- The program kind of a code. -/
def ProgramKind.ofCode : Nat → Option ProgramKind
  | 1 => some .launch
  | 2 => some .receive
  | _ => none

/-- Codes of the step actions (Table 6-3). -/
def Action.code : Action → Nat
  | .openValve => 1
  | .closeValve => 2
  | .verifyOpen => 3
  | .verifyClosed => 4
  | .dwell => 5
  | .insertRun => 6
  | .awaitPassage => 7
  | .awaitApproach => 8
  | .removeRun => 9
  | .endCycle => 10

/-- The step action of a code. -/
def Action.ofCode : Nat → Option Action
  | 1 => some .openValve
  | 2 => some .closeValve
  | 3 => some .verifyOpen
  | 4 => some .verifyClosed
  | 5 => some .dwell
  | 6 => some .insertRun
  | 7 => some .awaitPassage
  | 8 => some .awaitApproach
  | 9 => some .removeRun
  | 10 => some .endCycle
  | _ => none

/-- Codes of the run states (Table 10-5). -/
def RunState.code : RunState → Nat
  | .moving => 0
  | .halted => 1
  | .stalled => 2
  | .lost => 3

/-- Codes of the flow record states (Table 10-5). -/
def FlowState.code : FlowState → Nat
  | .none => 0
  | .live => 1
  | .stale => 2

/-- Codes of the slot states (Table 10-5). -/
def SlotState.code : SlotState → Nat
  | .idle => 0
  | .armed => 1
  | .running => 2
  | .spacing => 3
  | .waitStart => 4
  | .observe => 5
  | .failed => 6

/-- Codes of the train modes (Table 6-5). -/
def TrainMode.code : TrainMode → Nat
  | .single => 0
  | .train => 1
  | .permissive => 2

/-- The train mode of a code. -/
def TrainMode.ofCode : Nat → Option TrainMode
  | 0 => some .single
  | 1 => some .train
  | 2 => some .permissive
  | _ => none

/-- Codes of the step order (Table 10-5). -/
def StepOrder.code : StepOrder → Nat
  | .none => 0
  | .awaitingPlace => 1
  | .queued => 2
  | .delivered => 3
  | .lost => 4

/-- Codes of the termination causes (Table 6-7). -/
def Cause.code : Cause → Nat
  | .count => 1
  | .endRequest => 2
  | .permitWithdrawn => 3
  | .stepFailed => 4
  | .takeover => 5
  | .abort => 6
  | .modeChange => 7
  | .warmRestart => 8

/-- Codes of the health of a node (Table 7-1). -/
def Health.code : Health → Nat
  | .good => 0
  | .degraded => 1
  | .failed => 2

/-- A reported health; any other code is taken as FAILED (R158, R192). -/
def Health.ofReport : Nat → Health
  | 0 => .good
  | 1 => .degraded
  | _ => .failed

/-- Codes of the operating modes (R172, R184). -/
def Mode.code : Mode → Nat
  | .transparent => 0
  | .monitor => 1
  | .guarded => 2

/-- The operating mode of a code. -/
def Mode.ofCode : Nat → Option Mode
  | 0 => some .transparent
  | 1 => some .monitor
  | 2 => some .guarded
  | _ => none

/-- Codes of the log modes (Table 8-2). -/
def LogMode.code : LogMode → Nat
  | .off => 0
  | .track => 1
  | .traffic => 2
  | .mixed => 3

/-- The log mode of a code. -/
def LogMode.ofCode : Nat → Option LogMode
  | 0 => some .off
  | 1 => some .track
  | 2 => some .traffic
  | 3 => some .mixed
  | _ => none

/-- Codes of the watch directions (Table 8-3). -/
def WatchDir.code : WatchDir → Nat
  | .down => 0
  | .up => 1
  | .either => 2

/-- The watch direction of a code. -/
def WatchDir.ofCode : Nat → Option WatchDir
  | 0 => some .down
  | 1 => some .up
  | 2 => some .either
  | _ => none

/-- Codes of the tables that are committed (section 10.2). -/
def TableId.code : TableId → Nat
  | .lineMap => 0
  | .classes => 1
  | .sequence => 2

/-- The table of a code, for CLEAR SHADOW and COMMIT. -/
def TableId.ofCode : Nat → Option TableId
  | 0 => some .lineMap
  | 1 => some .classes
  | 2 => some .sequence
  | _ => none

/-- A flag argument: a byte above 1 is no flag (R191). -/
def flagOfCode : Nat → Option Bool
  | 0 => some false
  | 1 => some true
  | _ => none

/-- Codes of the log record kinds (Table 8-1). -/
def LogKind.code : LogKind → Nat
  | .runInserted => 1
  | .runAdopted => 2
  | .runReceived => 3
  | .runExited => 4
  | .runAbandoned => 5
  | .runRepositioned => 6
  | .passageMatched => 7
  | .passageOrphan => 8
  | .detectorMissed => 9
  | .runLost => 10
  | .anomalyAlarm => 11
  | .orderForwarded => 17
  | .orderRejected => 18
  | .valveStateChanged => 19
  | .valveMismatch => 20
  | .uncommandedMove => 21
  | .nodeSilent => 22
  | .slotEnded => 23
  | .watchHit => 24
  | .modeChanged => 25

/-- The kinds of class TRACK; the others are of class TRAFFIC (Table 8-1). -/
def LogKind.isTrack (k : LogKind) : Bool := k.code ≤ 11

/-- A slot as the number an answer or a record carries; 255 for none. -/
def slotNumber : Option SlotId → Nat
  | some k => k.val
  | none => 255

/-- The slot of a number. -/
def slotOfNat (n : Nat) : Option SlotId := if h : n < 4 then some ⟨n, h⟩ else none

/-! ### Point records (R10, Table 10-4) -/

/-- The argument length of LOAD POINT for a kind code, index byte included. -/
def pointArgLength : Nat → Option Nat
  | 1 => some 14
  | 2 => some 21
  | 3 => some 16
  | 4 => some 15
  | 5 => some 8
  | _ => none

/-- The node number byte of a point: 0 is absent where the kind allows it, a number above 126 is in no kind's range
(Table 1-1; log entry 21). The END point stores none. -/
def pointNode (kind n : Nat) : Option (Option Nat) :=
  if 127 ≤ n then none
  else if kind = 5 then some none
  else if n = 0 then (if kind = 1 then some none else none)
  else some (some n)

/-- The stretch fields, which stand at offset 7 of a point layout (R2). -/
def parseStretch (bs : List Byte) : Option Stretch :=
  let bore := be16 bs 7
  let umax := be16 bs 9
  let src := byteAt bs 11
  if 100 ≤ bore && bore ≤ 20000 && 100 ≤ umax && umax ≤ 8000 && (src ≤ 63 || src = 255)
  then some { bore := bore, umax := umax, source := indexOfByte src } else none

/-- The optional part, which stands at offset 12 of a point layout (R3, R4, R5). A MAINLINE valve stores no trap
reference (R4). -/
def parsePart (kind : Nat) (bs : List Byte) : Option Part :=
  match kind with
  | 1 => (TrapRole.ofCode (byteAt bs 12)).map Part.trap
  | 2 =>
    match ValveRole.ofCode (byteAt bs 12) with
    | none => none
    | some role =>
      let approach := be16 bs 13
      let clearance := be16 bs 15
      let travel := be16 bs 17
      let ref := byteAt bs 19
      if approach ≤ 5000 && clearance ≤ 500 && 5 ≤ travel && travel ≤ 900 && (ref ≤ 63 || ref = 255)
      then some (.valve { role := role, approach := approach, clearance := clearance, travel := travel,
                          trapRef := if role = .mainline then none else indexOfByte ref })
      else none
  | 3 => if byteAt bs 12 ≤ 3 && be16 bs 13 ≤ 600 then some (.detector (byteAt bs 12) (be16 bs 13)) else none
  | 4 => if be16 bs 12 ≤ 600 then some (.meter (be16 bs 12)) else none
  | 5 => some .endPoint
  | _ => none

/-- A point record from its layout (without the index byte), or nothing when a field lies outside its range (R10). The
supervise flag is stored clear on a point without a node number (R6). -/
def parsePoint (bs : List Byte) : Option Point :=
  let kind := byteAt bs 0
  let chainage := be32 bs 1
  match pointNode kind (byteAt bs 5), flagOfCode (byteAt bs 6), parsePart kind bs with
  | some node, some sup, some part =>
    if 400000 < chainage then none
    else if kind = 5 then
      some { chainage := chainage, node := node, supervise := sup && node.isSome, stretch := none, part := part }
    else
      match parseStretch bs with
      | some st =>
        some { chainage := chainage, node := node, supervise := sup && node.isSome, stretch := some st, part := part }
      | none => none
  | _, _, _ => none

/-- The stretch fields as an answer carries them. -/
def encodeStretch : Option Stretch → List Byte
  | some st => put16 st.bore ++ put16 st.umax ++ [optByte st.source]
  | none => []

/-- The optional part as an answer carries it. -/
def encodePart : Part → List Byte
  | .trap role => [byte role.code]
  | .valve v => [byte v.role.code] ++ put16 v.approach ++ put16 v.clearance ++ put16 v.travel ++ [optByte v.trapRef]
  | .detector channel holdOff => [byte channel] ++ put16 holdOff
  | .meter hold => put16 hold
  | .endPoint => []

/-- A point record in its load layout, without the index byte (Table 10-4). -/
def encodePoint (p : Point) : List Byte :=
  [byte p.part.code] ++ put32 p.chainage ++ [optByteZero p.node, flagByte p.supervise] ++ encodeStretch p.stretch ++
    encodePart p.part

/-! ### Class, program, step and watch records -/

/-- A class record from the arguments of LOAD CLASS, or nothing when a field lies outside its range (R11, Table 1-3). -/
def parseClass (args : List Byte) : Option PigClass :=
  let s0 := be16 args 1
  let band0 := be16 args 3
  let g := byteAt args 5
  let bandMax := be16 args 6
  let limit := be16 args 8
  if 500 ≤ s0 && s0 ≤ 1000 && 1 ≤ band0 && band0 ≤ 2000 && g ≤ 200 && band0 ≤ bandMax && bandMax ≤ 20000 && 30 ≤ limit
  then some { slip0 := s0, band0 := band0, growth := g, bandMax := bandMax, stallLimit := limit } else none

/-- A class record in its load layout. -/
def encodeClass (c : PigClass) : List Byte :=
  put16 c.slip0 ++ put16 c.band0 ++ [byte c.growth] ++ put16 c.bandMax ++ put16 c.stallLimit

/-- A program record from the arguments of LOAD PROGRAM (R124). -/
def parseProgram (args : List Byte) : Option Program :=
  match ProgramKind.ofCode (byteAt args 1) with
  | none => none
  | some kind =>
    let trap := byteAt args 2
    let first := byteAt args 3
    let count := byteAt args 4
    if trap ≤ 63 && first ≤ 127 && 1 ≤ count && count ≤ 32
    then some { kind := kind, trap := trap, first := first, count := count } else none

/-- A program record in its load layout. -/
def encodeProgram (p : Program) : List Byte := [byte p.kind.code, byte p.trap, byte p.first, byte p.count]

/-- The largest operand value of an action (R124, Table 6-3). -/
def Action.valueLimit : Action → Nat
  | .dwell => 7200
  | .awaitApproach => 50000
  | _ => 65535

/-- A step record from the arguments of LOAD STEP (R124). -/
def parseStep (args : List Byte) : Option StepRec :=
  match Action.ofCode (byteAt args 1), flagOfCode (byteAt args 7) with
  | some action, some cont =>
    let operand := byteAt args 2
    let value := be16 args 3
    let timeout := be16 args 5
    if (operand ≤ 63 || operand = 255) && timeout ≤ 7200 && value ≤ action.valueLimit
    then some { action := action, operand := indexOfByte operand, value := value, timeout := timeout, continueOn := cont }
    else none
  | _, _ => none

/-- A step record in its load layout. -/
def encodeStep (r : StepRec) : List Byte :=
  [byte r.action.code, optByte r.operand] ++ put16 r.value ++ put16 r.timeout ++ [flagByte r.continueOn]

/-- A watch entry from the arguments of LOAD WATCH (R168); kind 256 is ANY (Table 10-3). -/
def parseWatch (args : List Byte) : Option WatchEntry :=
  match flagOfCode (byteAt args 1), WatchDir.ofCode (byteAt args 6), flagOfCode (byteAt args 7) with
  | some enabled, some dir, some freeze =>
    let node := byteAt args 2
    let mask := byteAt args 3
    let kind := be16 args 4
    if node ≤ 127 && mask ≤ 127 && kind ≤ 256
    then some { enabled := enabled, node := node, mask := mask, kind := if kind = 256 then none else some kind,
                dir := dir, freeze := freeze }
    else none
  | _, _, _ => none

/-- A watch entry in its load layout. -/
def encodeWatch (w : WatchEntry) : List Byte :=
  [flagByte w.enabled, byte w.node, byte w.mask] ++ put16 (w.kind.getD 256) ++ [byte w.dir.code, flagByte w.freeze]

/-- A log record as READ LOG carries it (Table 10-6). -/
def encodeRecord (r : LogRecord) : List Byte :=
  put32 r.time.toNat ++ [byte r.kind.code, byte r.run, byte r.point, byte r.slot] ++ put16 r.detail

/-- A set of point indices as a field of eight bytes: point n is bit n mod 8 of byte n div 8 (R191). -/
def pointSetBytes (ps : List Nat) : List Byte :=
  (List.range 8).map (fun j =>
    byte (((List.range 8).map (fun b => if ps.contains (8 * j + b) then 2 ^ b else 0)).foldl (· + ·) 0))

end Sys2Proof.Machine
end

