-- ==== Sys2Proof/Machine/Flags.lean ====
section
/-! DEFINITION. Flag computations: the sticky conditions with their summary and alerts (R181, R183), the anomaly sets
(R47, R48), and the offering of log records with the freeze (R163, R164, R166). -/

namespace Sys2Proof.Machine

/-! ### Conditions (Table 9-4) -/

/-- RUN ALARM. -/
def condRunAlarm : Nat := 0
/-- ORPHAN PASSAGE. -/
def condOrphanPassage : Nat := 1
/-- DOWN OVERFLOW. -/
def condDownOverflow : Nat := 2
/-- UP OVERFLOW. -/
def condUpOverflow : Nat := 3
/-- PORT STALL. -/
def condPortStall : Nat := 4
/-- CHECK ERROR. -/
def condCheckError : Nat := 5
/-- NODE SILENT. -/
def condNodeSilent : Nat := 6
/-- VALVE MISMATCH. -/
def condValveMismatch : Nat := 7
/-- UNCOMMANDED MOVE. -/
def condUncommandedMove : Nat := 8
/-- SEQUENCE FAILED. -/
def condSequenceFailed : Nat := 9
/-- TAKEOVER. -/
def condTakeover : Nat := 10
/-- LOG FROZEN. -/
def condLogFrozen : Nat := 11
/-- LINK CLEARED. -/
def condLinkCleared : Nat := 12

/-- The set that holds one condition. -/
def condBit (c : Nat) : BitVec 13 := 1#13 <<< c

/-- The condition word as it is carried: the flags and, in bit 15, the summary, set exactly when a flag is set (R181). -/
def conditionWord (w : BitVec 13) : BitVec 16 :=
  w.setWidth 16 ||| (if w = 0#13 then 0#16 else 0x8000#16)

/-- The pending alert place after a rise of condition `c` that leaves the flags at `w` (R183, R88). -/
def alertAfterRise (cfg : Config) (hasNode : Bool) (clock : BitVec 32) (c : Nat) (w : BitVec 13) :
    Option Alert → Option Alert := fun old =>
  if cfg.alertEnables.getLsbD c && cfg.alertNode ≠ 0 && hasNode then
    match old with
    | none => some { dest := cfg.alertNode, word := conditionWord w, clock := clock }
    | some a => some { a with word := a.word ||| conditionWord (condBit c) }
  else old

/-- Sets a condition flag. Setting a clear flag is a rise and is handed to the making of alerts; setting a set flag
changes nothing (R181). -/
def raise (c : Nat) (s : State) : State :=
  { s with
    mgmt := { s.mgmt with conditions := s.mgmt.conditions ||| condBit c }
    portA := { s.portA with
      alert := if s.mgmt.conditions.getLsbD c then s.portA.alert
               else alertAfterRise s.mgmt.config s.lines.nodeNumber.isSome s.tracker.clock c
                      (s.mgmt.conditions ||| condBit c) s.portA.alert } }

/-! ### The event log -/

/-- A record kept in a circle whose first place is `base` and whose capacity is `cap`: it is written at the write index,
which advances, and the valid count grows up to the capacity (R163). -/
def Circle.next (c : Circle) (cap : Nat) : Circle :=
  { write := if c.write + 1 < cap then c.write + 1 else 0, valid := if c.valid < cap then c.valid + 1 else c.valid }

/-- A record offered to the log (R164): kept when the log is not frozen and the mode keeps its class (R163). -/
def EventLog.offer (mode : LogMode) (r : LogRecord) (g : EventLog) : EventLog :=
  if g.frozen then g else
  match mode, r.kind.isTrack with
  | .off, _ => g
  | .track, false => g
  | .traffic, true => g
  | .track, true => { g with places := g.places.set g.whole.write (some r), whole := g.whole.next 256 }
  | .traffic, false => { g with places := g.places.set g.whole.write (some r), whole := g.whole.next 256 }
  | .mixed, true => { g with places := g.places.set g.lower.write (some r), lower := g.lower.next 128 }
  | .mixed, false => { g with places := g.places.set (128 + g.upper.write) (some r), upper := g.upper.next 128 }

/-- Every circle's write index and valid count become 0 (R165, R167). -/
def EventLog.emptied (g : EventLog) : EventLog :=
  { g with lower := ⟨0, 0⟩, upper := ⟨0, 0⟩, whole := ⟨0, 0⟩ }

/-- A block writes a record, stamped with the section clock (R162, R164). -/
def offer (kind : LogKind) (run point slot detail : Nat) (s : State) : State :=
  let r : LogRecord :=
    { time := s.tracker.clock, kind := kind, run := run, point := point, slot := slot, detail := detail }
  { s with log := s.log.offer s.mgmt.config.logMode r }

/-- A freeze trigger (R166): without effect when the log is frozen already or its mode is OFF. -/
def freezeLog (s : State) : State :=
  if s.log.frozen || s.mgmt.config.logMode = .off then s
  else raise condLogFrozen { s with log := { s.log with frozen := true } }

/-! ### Anomalies (Table 2-7) -/

/-- MISS. -/
def anMiss : AnomalySet := 1#11
/-- EARLY. -/
def anEarly : AnomalySet := 2#11
/-- LATE. -/
def anLate : AnomalySet := 4#11
/-- OVERSPEED. -/
def anOverspeed : AnomalySet := 8#11
/-- STALL. -/
def anStall : AnomalySet := 16#11
/-- LOST. -/
def anLost : AnomalySet := 32#11
/-- ZONE. -/
def anZone : AnomalySet := 64#11
/-- NOFLOW. -/
def anNoflow : AnomalySet := 128#11
/-- REVERSE. -/
def anReverse : AnomalySet := 256#11
/-- BUNCH. -/
def anBunch : AnomalySet := 512#11
/-- SLIPCLAMP. -/
def anSlipclamp : AnomalySet := 1024#11

/-- A set that holds a kind under a condition. -/
def anIf (b : Bool) (k : AnomalySet) : AnomalySet := if b then k else 0#11

/-- The anomaly sets of a run after an event that raised these kinds, under this alarm mask (R48). -/
def Run.afterEvent (mask raised : AnomalySet) (r : Run) : Run :=
  { r with current := raised, accrued := r.accrued ||| (raised &&& ~~~mask), alarmed := r.alarmed ||| (raised &&& mask) }

/-- The alarm of a run event (R48): RUN ALARM, the ANOMALY ALARM record, and the freeze when freeze-on-alarm is on. -/
def alarmOf (r : Run) (raised : AnomalySet) (s : State) : State :=
  let masked := raised &&& s.mgmt.config.alarmMask
  if masked = 0#11 then s else
  let point := if raised &&& anZone = 0#11 then 255 else r.zoneValve.getD 255
  let s := raise condRunAlarm s
  let s := offer .anomalyAlarm r.id point (slotNumber r.bound) masked.toNat s
  if s.mgmt.config.freezeOnAlarm then freezeLog s else s

end Sys2Proof.Machine
end

