-- ==== Sys2Proof/Machine/Ops.lean ====
section
/-! DEFINITION. The named operations: reading the map and the records, writing one block of the state, the run table, the
bindings, the links of the two ports and the answer queue. Every meaning is written over these. -/

namespace Sys2Proof.Machine

/-! ### Commands -/

/-- An event of the controller. While the bypass relay is closed the controller takes part in nothing (R98). -/
def live (f : State → State) (s : State) : Host.Outcome State Fault Refusal :=
  .next (if s.lines.bypassClosed then s else f s)

/-- A command whose operands are not well formed is refused (log entry 34). -/
def ifWf (ok : Bool) (o : Host.Outcome State Fault Refusal) : Host.Outcome State Fault Refusal :=
  if ok then o else .refused .illFormed

/-! ### Things of which there are four -/

/-- The thing of a slot. -/
def Four.get {α : Type} (f : Four α) (k : SlotId) : α :=
  match k with
  | 0 => f.s0
  | 1 => f.s1
  | 2 => f.s2
  | 3 => f.s3

/-- Replaces the thing of a slot. -/
def Four.set {α : Type} (f : Four α) (k : SlotId) (a : α) : Four α :=
  match k with
  | 0 => { f with s0 := a }
  | 1 => { f with s1 := a }
  | 2 => { f with s2 := a }
  | 3 => { f with s3 := a }

/-- The slot numbers in order. -/
def slotIds : List SlotId := [0, 1, 2, 3]

/-! ### Writing one block of the state -/

/-- Replaces the run table. -/
def State.setRuns (s : State) (rs : List Run) : State := { s with tracker := { s.tracker with runs := rs } }

/-- Replaces the flow records. -/
def State.setFlows (s : State) (fs : List FlowRec) : State := { s with tracker := { s.tracker with flows := fs } }

/-- Replaces the detector records. -/
def State.setDetectors (s : State) (ds : List DetectorRec) : State := { s with matcher := { detectors := ds } }

/-- Replaces the valve records. -/
def State.setValves (s : State) (vs : List ValveRec) : State := { s with interlock := { valves := vs } }

/-- Replaces the node records. -/
def State.setNodes (s : State) (ns : List NodeRec) : State := { s with scan := { s.scan with nodes := ns } }

/-- Replaces the poll pending list. -/
def State.setPollList (s : State) (ps : List Nat) : State := { s with scan := { s.scan with pollList := ps } }

/-- Replaces the scan interval countdown. -/
def State.setScanCountdown (s : State) (n : Nat) : State := { s with scan := { s.scan with countdown := n } }

/-- A slot's record. -/
def State.slot (s : State) (k : SlotId) : Slot := s.seq.slots.get k

/-- Replaces a slot's record. -/
def State.setSlot (s : State) (k : SlotId) (r : Slot) : State := { s with seq := { slots := s.seq.slots.set k r } }

/-- A slot's place of the sequence order queue (R89). -/
def State.order (s : State) (k : SlotId) : Option SlotOrder := s.portB.orders.get k

/-- Replaces the content of a slot's place. -/
def State.setOrder (s : State) (k : SlotId) (o : Option SlotOrder) : State :=
  { s with portB := { s.portB with orders := s.portB.orders.set k o } }

/-- Replaces the down queue. -/
def State.setDown (s : State) (q : List Frame) : State := { s with portA := { s.portA with down := q } }

/-- Replaces the answer queue. -/
def State.setAnswers (s : State) (q : List Answer) : State := { s with portA := { s.portA with answers := q } }

/-- Replaces the pending alert. -/
def State.setAlert (s : State) (a : Option Alert) : State := { s with portA := { s.portA with alert := a } }

/-- Replaces the up queue. -/
def State.setUp (s : State) (q : List Frame) : State := { s with portB := { s.portB with up := q } }

/-- Replaces the two places of the input slot. -/
def State.setInput (s : State) (service : Option Service) (waiting : Option Request) : State :=
  { s with mgmt := { s.mgmt with service := service, waiting := waiting } }

/-- A port's link. -/
def State.link (s : State) : Port → Link
  | .a => s.portA.link
  | .b => s.portB.link

/-- Replaces a port's link. -/
def State.setLink (s : State) (p : Port) (l : Link) : State :=
  match p with
  | .a => { s with portA := { s.portA with link := l } }
  | .b => { s with portB := { s.portB with link := l } }

/-! ### The map -/

/-- The chainage of a point in mm; 0 for an index at or beyond the point count. -/
def chainMm (m : List Point) (i : Nat) : Nat := ((m[i]?).elim 0 Point.chainage) * 1000

/-- The chainage of the END point, the last point, in mm. -/
def endMm (m : List Point) : Nat := chainMm m (m.length - 1)

/-- The point is a DETECTOR. -/
def Point.isDetector (p : Point) : Bool := match p.part with | .detector _ _ => true | _ => false
/-- The point is a METER. -/
def Point.isMeter (p : Point) : Bool := match p.part with | .meter _ => true | _ => false
/-- The point is a TRAP. -/
def Point.isTrap (p : Point) : Bool := match p.part with | .trap _ => true | _ => false
/-- The point is a VALVE. -/
def Point.isValve (p : Point) : Bool := match p.part with | .valve _ => true | _ => false
/-- The point is the END. -/
def Point.isEnd (p : Point) : Bool := match p.part with | .endPoint => true | _ => false

/-- The indices of the points that have a property, in order. -/
def indicesOf (m : List Point) (f : Point → Bool) : List Nat :=
  (List.range m.length).filter (fun i => (m[i]?).elim false f)

/-- The detectors in order of index. -/
def detectorIndices (m : List Point) : List Nat := indicesOf m Point.isDetector

/-- The first DETECTOR point of higher index (Table 2-1, R65). -/
def nextDetector (m : List Point) (i : Nat) : Option Nat := (detectorIndices m).find? (fun d => i < d)

/-- The valve part of a point, when it is a VALVE. -/
def valvePart (m : List Point) (i : Nat) : Option ValvePart :=
  match (m[i]?).map Point.part with
  | some (.valve v) => some v
  | _ => none

/-- The flow hold time of a METER point. -/
def meterHold (m : List Point) (i : Nat) : Option Nat :=
  match (m[i]?).map Point.part with
  | some (.meter h) => some h
  | _ => none

/-- Channel and hold-off of a DETECTOR point. -/
def detectorPart (m : List Point) (i : Nat) : Option (Nat × Nat) :=
  match (m[i]?).map Point.part with
  | some (.detector c h) => some (c, h)
  | _ => none

/-- The VALVE point bound to a node number (R6). -/
def valveOfNode (m : List Point) (n : Nat) : Option Nat :=
  (indicesOf m (fun p => p.isValve && p.node == some n)).head?

/-- The METER point bound to a node number (R6). -/
def meterOfNode (m : List Point) (n : Nat) : Option Nat :=
  (indicesOf m (fun p => p.isMeter && p.node == some n)).head?

/-- The part is a detector of this channel. -/
def Part.hasChannel (c : Nat) : Part → Bool
  | .detector ch _ => ch == c
  | _ => false

/-- The DETECTOR point bound to a node number and channel (R6). -/
def detectorOfNode (m : List Point) (n c : Nat) : Option Nat :=
  (indicesOf m (fun p => p.part.hasChannel c && p.node == some n)).head?

/-- The lowest point index that carries a node number (R155); 255 when none does. -/
def lowestPointOf (m : List Point) (n : Nat) : Nat :=
  ((indicesOf m (fun p => p.node == some n)).head?).getD 255

/-- The points that carry this node number and are of the kind asked for. -/
def pointsOfNode (m : List Point) (n : Nat) (f : Point → Bool) : List Nat :=
  indicesOf m (fun p => f p && p.node == some n)

/-- The supervised nodes: distinct node numbers of supervised points, in order of the lowest such point (R6). -/
def supervisedNodes (m : List Point) : List Nat :=
  (m.filterMap (fun p => if p.supervise then p.node else none)).foldl
    (fun acc n => if acc.contains n then acc else acc ++ [n]) []

/-- The stretch that contains a position: the last point but END at or below it (R2). -/
def stretchIndex (m : List Point) (pos : Nat) : Nat :=
  (((List.range (m.length - 1)).filter (fun j => chainMm m j ≤ pos)).getLast?).getD 0

/-- The effective flow source of a stretch: its own, or that of the nearest stretch before it that has one (R2). -/
def flowSource (m : List Point) (j : Nat) : Option Nat :=
  (List.range (j + 1)).reverse.findSome? (fun i => (m[i]?).bind (fun p => p.stretch.bind Stretch.source))

/-- Both ends of the protection zone of a valve at point `i`, in mm (R114). -/
def zoneOf (m : List Point) (i : Nat) (v : ValvePart) : Nat × Nat :=
  (chainMm m i - v.approach * 1000, chainMm m i + v.clearance * 1000)

/-- A position lies in the protection zone of a valve (R114). -/
def inZone (m : List Point) (i : Nat) (v : ValvePart) (pos : Nat) : Bool :=
  decide ((zoneOf m i v).1 ≤ pos) && decide (pos ≤ (zoneOf m i v).2)

/-! ### The active tables -/

/-- The active Line Map. -/
def State.map (s : State) : List Point := s.tables.active.lineMap

/-- A class of the active Class Table. -/
def State.classAt (s : State) (c : Nat) : Option PigClass := s.tables.active.classes.getD c none

/-- What the arithmetic reads for a class that is not defined. No run holds such a class (R8; log entry 23). -/
def PigClass.absent : PigClass := { slip0 := 0, band0 := 0, growth := 0, bandMax := 0, stallLimit := 0 }

/-- The parameters of a run's class, read when they are used (R8). -/
def State.classOf (s : State) (c : Nat) : PigClass := (s.classAt c).getD PigClass.absent

/-- A program of the active Sequence Table. -/
def State.programAt (s : State) (n : Nat) : Option Program := s.tables.active.seq.programs.getD n none

/-- A step of the active Sequence Table. -/
def State.stepAt (s : State) (n : Nat) : Option StepRec := s.tables.active.seq.steps.getD n none

/-! ### Records derived from the map (R18) -/

/-- A valve record with the initial values (R100). -/
def ValveRec.initial (p : Nat) : ValveRec :=
  { point := p, state := .unknown, percent := 0, location := .unknown, lastTag := 0, suspect := false,
    expected := none, reserving := none }

/-- A detector record with the initial values (R53). -/
def DetectorRec.initial (p : Nat) : DetectorRec := { point := p, holdOff := 0, duplicates := 0, covered := true }

/-- A flow record with the initial values (R23). -/
def FlowRec.initial (p : Nat) : FlowRec := { point := p, q := 0, state := .none, rev := false, age := 0 }

/-- A node record with the initial values (R152). -/
def NodeRec.initial (n : Nat) : NodeRec := { node := n, heard := false, missed := 0, silent := false, health := .good }

/-- Rebuilds the valve, detector, flow and node records from the active map and empties the poll list (R18). -/
def rebuildDerived (s : State) : State :=
  { s with
    interlock := { valves := (indicesOf s.map Point.isValve).map ValveRec.initial }
    matcher := { detectors := (detectorIndices s.map).map DetectorRec.initial }
    tracker := { s.tracker with flows := (indicesOf s.map Point.isMeter).map FlowRec.initial }
    scan := { s.scan with nodes := (supervisedNodes s.map).map NodeRec.initial, pollList := [] } }

/-! ### Reading and writing the records -/

/-- The valve record of a point. -/
def State.valve (s : State) (p : Nat) : Option ValveRec := s.interlock.valves.find? (fun v => v.point == p)

/-- Changes the valve record of a point. -/
def State.updValve (s : State) (p : Nat) (f : ValveRec → ValveRec) : State :=
  s.setValves (s.interlock.valves.map (fun v => if v.point = p then f v else v))

/-- The detector record of a point. -/
def State.detector (s : State) (p : Nat) : Option DetectorRec := s.matcher.detectors.find? (fun d => d.point == p)

/-- Changes the detector record of a point. -/
def State.updDetector (s : State) (p : Nat) (f : DetectorRec → DetectorRec) : State :=
  s.setDetectors (s.matcher.detectors.map (fun d => if d.point = p then f d else d))

/-- The flow record of a point. -/
def State.flow (s : State) (p : Nat) : Option FlowRec := s.tracker.flows.find? (fun f => f.point == p)

/-- Changes the flow record of a point. -/
def State.updFlow (s : State) (p : Nat) (g : FlowRec → FlowRec) : State :=
  s.setFlows (s.tracker.flows.map (fun f => if f.point = p then g f else f))

/-- The node record of a supervised node. -/
def State.node (s : State) (n : Nat) : Option NodeRec := s.scan.nodes.find? (fun r => r.node == n)

/-- Changes the node record of a supervised node. -/
def State.updNode (s : State) (n : Nat) (f : NodeRec → NodeRec) : State :=
  s.setNodes (s.scan.nodes.map (fun r => if r.node = n then f r else r))

/-- The valve at a point is believed to be in a state. -/
def State.believed (s : State) (p : Nat) (st : ValveState) : Bool :=
  match s.valve p with
  | some v => v.state == st
  | none => false

/-! ### The run table -/

/-- The run with an id. -/
def State.run (s : State) (id : Nat) : Option Run := s.tracker.runs.find? (fun r => r.id == id)

/-- Changes the run with an id. -/
def State.updRun (s : State) (id : Nat) (f : Run → Run) : State :=
  s.setRuns (s.tracker.runs.map (fun r => if r.id = id then f r else r))

/-- The runs ahead of the run with an id. -/
def runsAhead (rs : List Run) (id : Nat) : List Run := rs.takeWhile (fun r => r.id != id)

/-- The runs behind the run with an id. -/
def runsBehind (rs : List Run) (id : Nat) : List Run := (rs.dropWhile (fun r => r.id != id)).drop 1

/-- The leader's position (R30). -/
def leaderPos (rs : List Run) (id : Nat) : Option Nat := ((runsAhead rs id).getLast?).map Run.position

/-- The follower's position (R30). -/
def followerPos (rs : List Run) (id : Nat) : Option Nat := ((runsBehind rs id).head?).map Run.position

/-- The first id after the last assigned one that no run holds, counting to 255 and then from 1 (R29). -/
def freeIdFrom : Nat → Nat → List Nat → Nat
  | 0, last, _ => last
  | fuel + 1, last, held =>
    let c := if 255 ≤ last then 1 else last + 1
    if held.contains c then freeIdFrom fuel c held else c

/-- The id the next run takes (R29). -/
def State.nextRunId (s : State) : Nat := freeIdFrom 255 s.tracker.lastId (s.tracker.runs.map Run.id)

/-- Places a run behind every run at or above its position and ahead of every run below it (R30). -/
def placeRun (r : Run) : List Run → List Run
  | [] => [r]
  | x :: xs => if r.position ≤ x.position then x :: placeRun r xs else r :: x :: xs

/-- The run table has room (R30). -/
def State.hasRoom (s : State) : Bool := decide (s.tracker.runs.length < 16)

/-- A run with the entry values of Table 2-1. -/
def entryRun (s : State) (id cls point : Nat) (origin : Origin) (bound : Option SlotId) : Run :=
  { id := id, cls := cls, state := .moving, position := chainMm s.map point, speed := 0,
    slip := (s.classOf cls).slip0, band := (s.classOf cls).band0 * 1000, flowDist := 0, lastFix := point,
    nextDet := nextDetector s.map point, misses := 0, halted := 0, zoneValve := none, current := 0#11, accrued := 0#11,
    alarmed := 0#11, origin := origin, bound := bound, insertedAt := s.tracker.clock }

/-- A run enters the table: it takes the next id, is placed, and the inserted counter increases (R29 to R32). -/
def enterRun (r : Run) (s : State) : State :=
  let t : Tracker :=
    { s.tracker with runs := placeRun r s.tracker.runs, lastId := r.id, inserted := s.tracker.inserted + 1#32 }
  { s with tracker := t }

/-! ### Bindings (R142) -/

/-- Ends the binding of a slot, on both sides. -/
def unbindSlot (k : SlotId) (s : State) : State :=
  match (s.slot k).bound with
  | none => s
  | some id => (s.setSlot k { s.slot k with bound := none }).updRun id (fun r => { r with bound := none })

/-- Binds a slot and a run, on both sides. -/
def bindSlot (k : SlotId) (id : Nat) (s : State) : State :=
  (s.setSlot k { s.slot k with bound := some id }).updRun id (fun r => { r with bound := some k })

/-- Clears the binding of every slot that holds a run's id (R36, R139). -/
def clearBindingTo (id : Nat) (s : State) : State :=
  slotIds.foldl (fun s k => if (s.slot k).bound = some id then s.setSlot k { s.slot k with bound := none } else s) s

/-- Ways out of the run table (Table 2-3). -/
inductive WayOut where
  | received
  | exited
  | abandoned
deriving DecidableEq, Repr

/-- The counter of a way out increases by one (R37). -/
def countOut (w : WayOut) (s : State) : State :=
  match w with
  | .received => { s with tracker := { s.tracker with received := s.tracker.received + 1#32 } }
  | .exited => { s with tracker := { s.tracker with exited := s.tracker.exited + 1#32 } }
  | .abandoned => { s with tracker := { s.tracker with abandoned := s.tracker.abandoned + 1#32 } }

/-- The record of a way out. -/
def WayOut.kind : WayOut → LogKind
  | .received => .runReceived
  | .exited => .runExited
  | .abandoned => .runAbandoned

/-- A run leaves the table (R36): out of the list, its binding cleared, the counter, the record. -/
def removeRun (w : WayOut) (r : Run) (point detail : Nat) (s : State) : State :=
  let s := s.setRuns (s.tracker.runs.filter (fun x => x.id != r.id))
  let s := clearBindingTo r.id s
  let s := countOut w s
  offer w.kind r.id point (slotNumber r.bound) detail s

/-! ### The links of the ports -/

/-- Changes a port's link. -/
def State.updLink (s : State) (p : Port) (f : Link → Link) : State := s.setLink p (f (s.link p))

/-- Sends a link reply: at once, or at the end of the telegram that the port is in the middle of (R79). -/
def Link.reply (r : Reply) (l : Link) : Link :=
  match l.tx with
  | some t => if t.phase = .sending then { l with deferred := l.deferred ++ [r] } else { l with wire := l.wire ++ [.reply r] }
  | none => { l with wire := l.wire ++ [.reply r] }

/-- Sends the replies that were deferred during a transmission, which has now ended (R79). -/
def Link.flush (l : Link) : Link := { l with wire := l.wire ++ l.deferred.map Wire.reply, deferred := [] }

/-- Begins an attempt of a telegram (R80). -/
def Link.transmit (t : Tx) (l : Link) : Link :=
  { l with tx := some { t with phase := .sending }, wire := l.wire ++ [.telegram t.frame] }

/-- The port is free again. -/
def Link.release (l : Link) : Link := { l with tx := none }

/-- Abandons what the port is receiving and transmitting (R95, R97). A reply that was deferred during the transmission
goes out when the transmission ends, which is now (log entry 8). -/
def Link.abandon (l : Link) : Link :=
  { l.flush with receiving := false, abandoned := l.receiving || l.abandoned, tx := none }

/-- A new transmission of a telegram from a source. -/
def Tx.fresh (source : TxSource) (frame : Frame) : Tx :=
  { source := source, frame := frame, phase := .sending, refusals := 0, placeHeld := false, logged := false }

/-- A bad telegram (R77): the port's count, saturating at 65,535, and CHECK ERROR. -/
def badTelegram (p : Port) (s : State) : State :=
  raise condCheckError (s.updLink p (fun l => { l with checkErrors := min 65535 (l.checkErrors + 1) }))

/-! ### The answer queue (R87) -/

/-- The controller's own node number, as it stands in the telegrams it makes; a controller without one makes none. -/
def State.ownNode (s : State) : Nat := s.lines.nodeNumber.getD 0

/-- Places held for a control-unit order on Port B (R92). -/
def State.heldPlaces (s : State) : Nat :=
  match s.portB.link.tx with
  | some t => if t.placeHeld then 1 else 0
  | none => 0

/-- Places of the answer queue that are not occupied: one that is held counts as occupied (R82, R87). -/
def State.freePlaces (s : State) : Nat := 4 - (s.portA.answers.length + s.heldPlaces)

/-- The request code, when the payload holds one (R177). -/
def Request.code (r : Request) : Option Nat := r.payload.head?.map BitVec.toNat

/-- The arguments of a request. -/
def Request.args (r : Request) : List Byte := r.payload.drop 1

/-- The LINK CLEAR request, which needs no free place (R176). -/
def Request.isLinkClear (r : Request) : Bool := r.payload == [6#8]

/-- The number of free places that the request in service will take before any order may (R87; log entry 19). -/
def State.claimed (s : State) : Nat :=
  match s.mgmt.service with
  | some ⟨r, .unserved⟩ => if r.isLinkClear then 0 else 1
  | some ⟨_, .commitApplied _ _⟩ => 1
  | _ => 0

/-- A place of the answer queue is free for a control-unit order (R87, R90). -/
def State.placeForOrder (s : State) : Bool := decide (s.claimed < s.freePlaces)

/-- A telegram joins the answer queue. -/
def addAnswer (f : Frame) (restart : Bool) (s : State) : State :=
  s.setAnswers (s.portA.answers ++ [{ frame := f, restart := restart }])

/-- A MGMT ANSWER: to the request's source, with its tag; request code, status and data (R87, R177). -/
def answerFrame (s : State) (dest : Nat) (tag : Byte) (code status : Nat) (data : List Byte) : Frame :=
  mkFrame dest s.ownNode kindAnswer tag ([byte code, byte status] ++ data)

/-- The answer to a request; the request code is 0 when the payload is empty (R175, R177). -/
def answerRequest (r : Request) (status : Nat) (data : List Byte) (restart : Bool) (s : State) : State :=
  addAnswer (answerFrame s r.source r.tag (r.code.getD 0) status data) restart s

/-- A REJECT of a control-unit order (R87, R116): to its source, with its telegram tag; order tag, valve node, reason. -/
def rejectFrame (s : State) (order : Frame) (reason : Nat) : Frame :=
  mkFrame (frameSource order) s.ownNode kindReject (frameTag order)
    [byte (orderTag order), byte (frameDest order), byte reason]

end Sys2Proof.Machine
end

