-- ==== Sys2Proof/Machine/Tables.lean ====
section
/-! DEFINITION. Validation of the three loaded tables (R16, R17, R125) and the application of a pending commit
(R15, R18, R19). Each check answers the index it reports, or nothing when it passes. -/

namespace Sys2Proof.Machine

/-- Table 1-4 check 1: EMPTY. -/
def mapEmpty (m : List Point) : Option Nat := if m.length = 0 then some 255 else none

/-- Check 2: FIRST POINT. -/
def mapFirstPoint (m : List Point) : Option Nat :=
  match m.head? with
  | some p => if p.isTrap && p.chainage == 0 then none else some 0
  | none => none

/-- Check 3: LAST POINT. -/
def mapLastPoint (m : List Point) : Option Nat :=
  match (indicesOf m Point.isEnd).head? with
  | some i => if i + 1 < m.length then some i else none
  | none => some (m.length - 1)

/-- Check 4: CHAINAGE ORDER. -/
def mapChainageOrder (m : List Point) : Option Nat :=
  (List.range m.length).find? (fun i => 0 < i && decide (chainMm m i ≤ chainMm m (i - 1)))

/-- Two points may not carry the same node number in these kinds (check 5). -/
def nodesConflict (p q : Point) : Bool :=
  p.node.isSome && p.node == q.node &&
  match p.part, q.part with
  | .valve _, .valve _ => true
  | .meter _, .meter _ => true
  | .detector c _, .detector d _ => c == d
  | _, _ => false

/-- Check 5: NODE CONFLICT, at the later point of the pair. -/
def mapNodeConflict (m : List Point) : Option Nat :=
  (List.range m.length).find? (fun j =>
    (m[j]?).elim false (fun q => (m.take j).any (fun p => nodesConflict p q)))

/-- Check 6: FLOW SOURCE. -/
def mapFlowSource (m : List Point) : Option Nat :=
  (List.range m.length).find? (fun i =>
    match (m[i]?).bind (fun p => p.stretch.bind Stretch.source) with
    | some f => ! (m[f]?).elim false Point.isMeter
    | none => i == 0)

/-- Check 7: TRAP REFERENCE. -/
def mapTrapReference (m : List Point) : Option Nat :=
  (List.range m.length).find? (fun i =>
    match valvePart m i with
    | some v => v.role != .mainline && ! (v.trapRef.bind (fun t => m[t]?)).elim false Point.isTrap
    | none => false)

/-- Check 8: SUPERVISED NODES, at the point that names the 65th distinct node. -/
def mapSupervised (m : List Point) : Option Nat :=
  (List.range m.length).find? (fun i => decide (64 < (supervisedNodes (m.take (i + 1))).length))

/-- The steps a program names, with an empty place as nothing (R122). -/
def programSteps (t : SeqTable) (p : Program) : List (Option StepRec) :=
  (List.range p.count).map (fun i => t.steps.getD (p.first + i) none)

/-- The defined programs with their numbers, lowest first. -/
def definedPrograms (t : SeqTable) : List (Nat × Program) :=
  (List.range 16).filterMap (fun n => (t.programs.getD n none).map (fun p => (n, p)))

/-- The lowest program that fails a check. -/
def firstFailing (t : SeqTable) (fails : Program → Bool) : Option Nat :=
  ((definedPrograms t).find? (fun x => fails x.2)).map Prod.fst

/-- Table 6-4 check 11: STEP RANGE. -/
def stepRangeFails (t : SeqTable) (p : Program) : Bool :=
  decide (127 < p.first + p.count - 1) || (programSteps t p).any Option.isNone

/-- The action of a step place. -/
def isAction (a : Action) (o : Option StepRec) : Bool := o.elim false (fun r => r.action == a)

/-- Check 12: PROGRAM END. -/
def programEndFails (t : SeqTable) (p : Program) : Bool :=
  let ss := programSteps t p
  ! (ss.getLast?).elim false (isAction .endCycle) || ss.dropLast.any (isAction .endCycle)

/-- Check 13: TRAP POINT. -/
def trapPointFails (m : List Point) (p : Program) : Bool :=
  match (m[p.trap]?).map Point.part with
  | some (.trap role) =>
    (p.kind == .launch && role == .receiver) || (p.kind == .receive && role == .launcher)
  | _ => true

/-- The operand point a step needs is there and of the kind that Table 6-3 requires. -/
def operandOk (m : List Point) (r : StepRec) : Bool :=
  let at_ := r.operand.bind (fun i => m[i]?)
  match r.action with
  | .openValve => at_.elim false Point.isValve
  | .closeValve => at_.elim false Point.isValve
  | .verifyOpen => at_.elim false Point.isValve
  | .verifyClosed => at_.elim false Point.isValve
  | .awaitPassage => at_.elim false Point.isDetector
  | .awaitApproach => at_.isSome
  | .dwell => true
  | .insertRun => true
  | .removeRun => true
  | .endCycle => true

/-- Check 14: OPERAND. -/
def operandFails (m : List Point) (t : SeqTable) (p : Program) : Bool :=
  (programSteps t p).any (fun o => o.elim false (fun r => ! operandOk m r))

/-- Check 15: RUN STEPS. -/
def runStepsFail (t : SeqTable) (p : Program) : Bool :=
  let ss := programSteps t p
  let ins := (ss.filter (isAction .insertRun)).length
  let rem := (ss.filter (isAction .removeRun)).length
  match p.kind with
  | .launch => ! (ins == 1 && rem == 0)
  | .receive => ! (rem == 1 && ins == 0)

/-- Check 9 of Table 1-4: SEQUENCE REFERENCE, checks 13 and 14 of the Sequence Table against a map (R125). -/
def mapSequenceReference (t : SeqTable) (m : List Point) : Option Nat :=
  firstFailing t (fun p => trapPointFails m p || operandFails m t p)

/-- The first check that fails, with its error code and the index it reports. -/
def firstError : List (Nat × Option Nat) → Option (Nat × Nat)
  | [] => none
  | (code, some i) :: _ => some (code, i)
  | (_, none) :: rest => firstError rest

/-- Line Map validation (R16, Table 1-4). -/
def validateMap (t : SeqTable) (m : List Point) : Option (Nat × Nat) :=
  firstError [(1, mapEmpty m), (2, mapFirstPoint m), (3, mapLastPoint m), (4, mapChainageOrder m),
    (5, mapNodeConflict m), (6, mapFlowSource m), (7, mapTrapReference m), (8, mapSupervised m),
    (9, mapSequenceReference t m)]

/-- The number of defined classes (R13, R15). -/
def classCount (cs : List (Option PigClass)) : Nat := (cs.filter Option.isSome).length

/-- A class number is held by a run, by a slot that is not IDLE, or by the chain record of such a slot (R17). -/
def State.classInUse (s : State) (c : Nat) : Bool :=
  s.tracker.runs.any (fun r => r.cls == c) ||
  slotIds.any (fun k =>
    (s.slot k).state != .idle && ((s.slot k).cls == c || (s.slot k).chain.elim false (fun ch => ch.cls == c)))

/-- Class Table validation (R17, Table 1-5). -/
def validateClasses (s : State) (cs : List (Option PigClass)) : Option (Nat × Nat) :=
  firstError
    [(1, if classCount cs = 0 then some 255 else none),
     (10, (List.range 8).find? (fun c => s.classInUse c && (cs.getD c none).isNone))]

/-- Sequence Table validation (R125, Table 6-4) against the active Line Map. -/
def validateSequence (m : List Point) (t : SeqTable) : Option (Nat × Nat) :=
  firstError
    [(11, firstFailing t (stepRangeFails t)), (12, firstFailing t (programEndFails t)),
     (13, firstFailing t (trapPointFails m)), (14, firstFailing t (operandFails m t)),
     (15, firstFailing t (runStepsFail t))]

/-- The two record counts of a copy of a table (R15, Table 10-5). -/
def copyCounts (t : TableId) (c : Tables) : List Byte :=
  match t with
  | .lineMap => [byte c.lineMap.length, byte (supervisedNodes c.lineMap).length]
  | .classes => [byte (classCount c.classes), 0#8]
  | .sequence =>
    [byte (c.seq.programs.filter Option.isSome).length, byte (c.seq.steps.filter Option.isSome).length]

/-- A band brought into the limits of a class (R19). -/
def clampBand (c : PigClass) (band : Nat) : Nat :=
  if band < c.band0 * 1000 then c.band0 * 1000 else if c.bandMax * 1000 < band then c.bandMax * 1000 else band

/-- Replaces the active copies. -/
def State.setActive (s : State) (a : Tables) : State := { s with tables := { s.tables with active := a } }

/-- The effect of a successful commit (R15): the shadow's content becomes the active copy, the shadow keeps an identical
one, and the derived state follows (R18, R19). -/
def installTable (t : TableId) (s : State) : State :=
  let a := s.tables.active
  let sh := s.tables.shadow
  match t with
  | .lineMap => rebuildDerived (s.setActive { a with lineMap := sh.lineMap })
  | .classes =>
    let s := s.setActive { a with classes := sh.classes }
    s.setRuns (s.tracker.runs.map (fun r => { r with band := clampBand (s.classOf r.cls) r.band }))
  | .sequence => s.setActive { a with seq := sh.seq }

/-- The first failing check of a pending commit (R15). -/
def State.commitError (s : State) (t : TableId) : Option (Nat × Nat) :=
  match t with
  | .lineMap => validateMap s.tables.active.seq s.tables.shadow.lineMap
  | .classes => validateClasses s s.tables.shadow.classes
  | .sequence => validateSequence s.map s.tables.shadow.seq

/-- Ends the pending commit and leaves its answer, status and data, with the COMMIT in service (R15, R87). -/
def finishCommit (status : Nat) (data : List Byte) (s : State) : State :=
  let s := { s with tables := { s.tables with pendingCommit := none } }
  s.setInput (s.mgmt.service.map (fun v => { v with phase := .commitApplied status data })) s.mgmt.waiting

/-- Applies a pending commit at a second event (R15). Status 0 is OK, 10 is INVALID TABLE (Table 9-1). -/
def applyCommit (s : State) : State :=
  match s.tables.pendingCommit with
  | none => s
  | some t =>
    match s.commitError t with
    | some (code, index) => finishCommit 10 [byte code, byte index] s
    | none =>
      let s := installTable t s
      finishCommit 0 (byte t.code :: copyCounts t s.tables.active) s

end Sys2Proof.Machine
end

