-- ==== Sys2Proof/Machine/Interlock.lean ====
section
/-! DEFINITION. The Interlock: valve records and reports (R99 to R104), the travel monitor (R105 to R109), reservations
(R110), the order check (R112 to R116) and the zone test of the advance (R119). -/

namespace Sys2Proof.Machine

/-! ### Reports and silence -/

/-- Writes VALVE STATE CHANGED for a record (Table 5-8). -/
def logValveChange (p : Nat) (reserving : Option SlotId) (old new : ValveState) (loc : Location) (s : State) : State :=
  offer .valveStateChanged 0 p (slotNumber reserving) (loc.code * 256 + old.code * 16 + new.code) s

/-- A report shows a movement (R108). -/
def isMovement (old new : ValveState) : Bool :=
  ((new == .opening || new == .closing) && old != new) ||
  (old == .opened && new == .closed) || (old == .closed && new == .opened)

/-- The valve record after a report (R102 step 1, R106): the reported values, and the expected order and suspect flag
cleared when the order's target is reported. -/
def ValveRec.afterReport (v : ValveRec) (st : ValveState) (pct : Nat) (loc : Location) (tag : Nat) : ValveRec :=
  let met := v.expected.elim false (fun e => e.target.state == st)
  { v with state := st, percent := pct, location := loc, lastTag := tag,
           expected := if met then none else v.expected, suspect := if met then false else v.suspect }

/-- Steps 1 to 4 of a mapped VALVE STATE report (R102, R106, R108), with the fields as R192 takes them. -/
def takeValveReport (p : Nat) (payload : List Byte) (s : State) : State :=
  match s.valve p with
  | none => s
  | some v =>
    let st := ValveState.ofReport (byteAt payload 0)
    let loc := Location.ofReport (byteAt payload 2)
    let s := s.updValve p (fun v => v.afterReport st (min 100 (byteAt payload 1)) loc (byteAt payload 3))
    let s := if v.state ≠ st || v.location ≠ loc then logValveChange p v.reserving v.state st loc s else s
    if isMovement v.state st && v.expected.isNone && loc == .remote then
      offer .uncommandedMove 0 p 255 (v.state.code * 16 + st.code) (raise condUncommandedMove s)
    else s

/-- The silence of a node reaches one of its valves (R103). -/
def silenceValve (s : State) (p : Nat) : State :=
  match s.valve p with
  | none => s
  | some v =>
    let s := s.updValve p (fun v => { v with state := .unknown, location := .unknown })
    if v.state ≠ .unknown || v.location ≠ .unknown then
      logValveChange p v.reserving v.state .unknown .unknown s
    else s

/-! ### The travel monitor -/

/-- The effect of a delivered order on a valve record (Table 5-3). -/
def ValveRec.afterDelivery (travel : Nat) (action : Nat) (orig : Originator) (v : ValveRec) : ValveRec :=
  if action = actionOpen then
    { v with expected := if v.state = .opened then none else some ⟨.opened, travel, orig⟩ }
  else if action = actionClose then
    { v with expected := if v.state = .closed then none else some ⟨.closed, travel, orig⟩ }
  else if action = actionStop then { v with expected := none }
  else v

/-- The travel limit of a VALVE point. -/
def State.travelLimit (s : State) (p : Nat) : Nat := (valvePart s.map p).elim 0 ValvePart.travel

/-- Port B reports a delivered VALVE ORDER (R93, R105). In TRANSPARENT it affects no record. -/
def deliverOrder (orig : Originator) (f : Frame) (s : State) : State :=
  if s.mgmt.mode = .transparent then s else
  if frameDest f = broadcast then
    s.setValves (s.interlock.valves.map (fun v => v.afterDelivery (s.travelLimit v.point) (orderAction f) orig))
  else
    match valveOfNode s.map (frameDest f) with
    | some p => s.updValve p (fun v => v.afterDelivery (s.travelLimit p) (orderAction f) orig)
    | none => s

/-- The slot field of a VALVE MISMATCH or ORDER FORWARDED record: 255 for the control unit (Table 5-8). -/
def Originator.number : Originator → Nat
  | .control => 255
  | .slot k => k.val

/-- An expected order has run out (R107). -/
def mismatchValve (p : Nat) (s : State) : State :=
  match s.valve p with
  | none => s
  | some v =>
    match v.expected with
    | none => s
    | some e =>
      let s := raise condValveMismatch s
      let s := s.updValve p (fun v => { v with suspect := true, expected := none })
      offer .valveMismatch 0 p e.originator.number (e.target.code * 256 + v.percent) s

/-- The travel countdown of one valve at a second event (R107). -/
def tickValve (s : State) (p : Nat) : State :=
  match (s.valve p).bind ValveRec.expected with
  | none => s
  | some e =>
    if e.remaining = 0 then s else
    let s := s.updValve p (fun v => { v with expected := some { e with remaining := e.remaining - 1 } })
    if e.remaining = 1 then mismatchValve p s else s

/-- The Interlock's part of a second event (R107), record by record in order of point index. R107 gives no order among the
records: which of two VALVE MISMATCH records comes first is the model's choice (log entry 38). -/
def tickTravel (s : State) : State :=
  if s.mgmt.mode = .transparent then s else (s.interlock.valves.map ValveRec.point).foldl tickValve s

/-! ### Reservations (R110) -/

/-- Reserves a set of valves for a slot. -/
def reserveValves (k : SlotId) (ps : List Nat) (s : State) : State :=
  s.setValves (s.interlock.valves.map (fun v => if ps.contains v.point then { v with reserving := some k } else v))

/-- Releases a slot's reservation. -/
def releaseValves (k : SlotId) (s : State) : State :=
  s.setValves (s.interlock.valves.map (fun v => if v.reserving = some k then { v with reserving := none } else v))

/-- No valve of the set is reserved. -/
def State.unreserved (s : State) (ps : List Nat) : Bool :=
  ps.all (fun p => (s.valve p).elim true (fun v => v.reserving.isNone))

/-! ### The order check (R112 to R115) -/

/-- Outcome of the check. A rejection carries its reason and the run and slot of its ORDER REJECTED record. -/
inductive Check where
  | forward
  | hold
  | reject (reason run slot : Nat)
deriving DecidableEq, Repr

/-- The run of a zone nearest the head of the run table (R114). -/
def occupant (m : List Point) (i : Nat) (v : ValvePart) (rs : List Run) : Option Run :=
  rs.find? (fun r => inZone m i v r.position)

/-- The slot that stands in the way of an order: the reserving slot, unless it is the order's own (R113, R115). -/
def obstacle (orig : Originator) (r : Option SlotId) : Option SlotId :=
  match orig, r with
  | .slot k, some j => if k = j then none else some j
  | .control, r => r
  | .slot _, none => none

/-- The check of a VALVE ORDER (Table 5-6), with the two differences of R115 for a slot's order. -/
def checkOrder (orig : Originator) (f : Frame) (s : State) : Check :=
  let action := orderAction f
  if action ≠ actionOpen ∧ action ≠ actionClose ∧ action ≠ actionStop then .forward
  else if frameDest f = broadcast then (if action = actionClose then .reject 3 0 255 else .forward)
  else
    match valveOfNode s.map (frameDest f) with
    | none => .forward
    | some p =>
      if action = actionStop then .forward
      else
        match obstacle orig ((s.valve p).bind ValveRec.reserving), valvePart s.map p with
        | some j, _ => .reject 2 0 j.val
        | none, some v =>
          if action = actionClose ∧ v.role = .mainline then
            match occupant s.map p v s.tracker.runs with
            | none => .forward
            | some r => if orig = .control then .reject 1 r.id 255 else .hold
          else .forward
        | none, none => .forward

/-- The point field of an order's record: the valve point, or 255 (Table 5-8). -/
def orderPoint (f : Frame) (s : State) : Nat :=
  if frameDest f = broadcast then 255 else (valveOfNode s.map (frameDest f)).getD 255

/-- Writes ORDER FORWARDED (Table 5-8). -/
def logForwarded (orig : Originator) (f : Frame) (s : State) : State :=
  offer .orderForwarded 0 (orderPoint f s) orig.number (orderAction f * 256 + orderTag f) s

/-- Writes ORDER REJECTED (Table 5-8). -/
def logRejected (f : Frame) (reason run slot : Nat) (s : State) : State :=
  offer .orderRejected run (orderPoint f s) slot (reason * 256 + orderTag f) s

/-! ### The zone check of the advance (R119) -/

/-- The MAINLINE valve of lowest index whose zone holds a position and that is not believed OPEN. -/
def zoneValveAt (s : State) (pos : Nat) : Option Nat :=
  (indicesOf s.map Point.isValve).find? (fun i =>
    match valvePart s.map i with
    | some v => v.role == .mainline && inZone s.map i v pos && ! s.believed i .opened
    | none => false)

end Sys2Proof.Machine
end

