-- ==== Sys2Proof/Machine/ScanUnit.lean ====
section
/-! DEFINITION. The Scan Unit: hearing (R157, R158), rounds and silence (R153 to R155). -/

namespace Sys2Proof.Machine

/-- Sets the covered flag of every DETECTOR point that carries a node number (R55). -/
def coverNode (n : Nat) (covered : Bool) (s : State) : State :=
  let ps := pointsOfNode s.map n Point.isDetector
  s.setDetectors (s.matcher.detectors.map (fun d => if ps.contains d.point then { d with covered := covered } else d))

/-- A taken Port B telegram makes its source heard (R157). -/
def hearNode (n : Nat) (s : State) : State :=
  match s.node n with
  | none => s
  | some r =>
    let s := s.updNode n (fun r => { r with heard := true, missed := 0, silent := false })
    let s := s.setPollList (s.scan.pollList.filter (fun m => m != n))
    if r.silent then coverNode n true s else s

/-- A NODE STATE sets the last health of a supervised node (R158). -/
def takeNodeState (n : Nat) (payload : List Byte) (s : State) : State :=
  s.updNode n (fun r => { r with health := Health.ofReport (byteAt payload 0) })

/-- A node becomes SILENT (R155): the record, the condition, and the notices to the detectors and the valves. -/
def silenceNode (r : NodeRec) (s : State) : State :=
  let s := offer .nodeSilent 0 (lowestPointOf s.map r.node) 255 (r.health.code * 256 + r.node) s
  let s := raise condNodeSilent s
  let s := coverNode r.node false s
  (pointsOfNode s.map r.node Point.isValve).foldl silenceValve s

/-- Step 1 of a round for one record (R154). -/
def missRound (s : State) (n : Nat) : State :=
  match s.node n with
  | none => s
  | some r =>
    if r.heard then s else
    let s := s.updNode n (fun r => { r with missed := min 3 (r.missed + 1), silent := r.silent || decide (2 ≤ r.missed) })
    if 2 ≤ r.missed ∧ r.silent = false then silenceNode r s else s

/-- The start of a round (R154). -/
def startRound (s : State) : State :=
  let s := (s.scan.nodes.map NodeRec.node).foldl missRound s
  let s := s.setNodes (s.scan.nodes.map (fun r => { r with missed := if r.heard then 0 else r.missed, heard := false }))
  s.setPollList (s.scan.nodes.map NodeRec.node)

/-- A round starts and the countdown is loaded again (R153). -/
def roundAndReload (s : State) : State := (startRound s).setScanCountdown s.mgmt.config.scanInterval

/-- The Scan Unit's part of a second event (R153). -/
def tickScan (s : State) : State :=
  if s.mgmt.mode = .transparent || s.scan.countdown = 0 then s
  else if s.scan.countdown = 1 then roundAndReload s
  else s.setScanCountdown (s.scan.countdown - 1)

end Sys2Proof.Machine
end

