-- ==== Sys2Proof/Machine/TrackerUnit.lean ====
section
/-! DEFINITION. The Run Tracker: flow records (R24, R25), the advance in its eleven steps (R38 to R45, R69, R70, R119),
the run event (R48) and the Run Tracker's part of a second event (R21). -/

namespace Sys2Proof.Machine

/-! ### Flow records -/

/-- The record after a FLOW REPORT (R24), its fields as R192 takes them. -/
def FlowRec.afterReport (hold : Nat) (payload : List Byte) (f : FlowRec) : FlowRec :=
  if byteAt payload 3 ≠ 0 then f
  else if byteAt payload 2 = 0 then { f with q := min 65000 (be16 payload 0), rev := false, state := .live, age := hold }
  else { f with q := 0, rev := true, state := .live, age := hold }

/-- A FLOW REPORT is matched by its source node (R24). -/
def takeFlowReport (n : Nat) (payload : List Byte) (s : State) : State :=
  match meterOfNode s.map n with
  | none => s
  | some p => s.updFlow p (fun f => f.afterReport ((meterHold s.map p).getD 0) payload)

/-- The ageing of a record at a second event (R25). -/
def FlowRec.aged (f : FlowRec) : FlowRec :=
  match f.state with
  | .live => { f with age := f.age - 1, state := if f.age ≤ 1 then .stale else .live }
  | _ => f

/-! ### The arithmetic of one advance -/

/-- What step 2 takes from the flow record: q, the kinds raised, and the growth factor (Table 2-4). -/
structure FlowTaken where
  q : Nat
  raised : AnomalySet
  factor : Nat
deriving DecidableEq, Repr

/-- Table 2-4. No record at all reads as NONE; every stretch of an active map has one (R2). -/
def flowTaken : Option FlowRec → FlowTaken
  | none => ⟨0, anNoflow, 1⟩
  | some f =>
    match f.state, f.rev with
    | .none, _ => ⟨0, anNoflow, 1⟩
    | .live, false => ⟨f.q, 0#11, 1⟩
    | .live, true => ⟨0, anReverse, 1⟩
    | .stale, false => ⟨f.q, anNoflow, 2⟩
    | .stale, true => ⟨0, anNoflow ||| anReverse, 2⟩

/-- Step 3: flow velocity (R40). -/
def flowVelocity (q bore : Nat) : Nat := q * 10000 / (36 * bore)

/-- Step 4 before the limit: pig speed (R40). -/
def pigSpeed (v slip : Nat) : Nat := v * slip / 1000

/-- A run and the kinds that its event has raised so far. -/
structure Advance where
  run : Run
  raised : AnomalySet
deriving DecidableEq, Repr

/-- Steps 2 to 7 (R39 to R42): flow, speed, position clamped to the leader's, band. -/
def moveRun (taken : FlowTaken) (st : Stretch) (c : PigClass) (leader : Option Nat) (r : Run) : Advance :=
  let v := flowVelocity taken.q st.bore
  let u0 := pigSpeed v r.slip
  let u1 := min u0 st.umax
  let p1 := r.position + u1
  let p2 := leader.elim p1 (fun l => min p1 l)
  let u2 := p2 - r.position
  let band := if 0 < u2 then min (c.bandMax * 1000) (r.band + u2 * (c.growth * taken.factor) / 1000) else r.band
  { run := { r with flowDist := min 4000000000 (r.flowDist + v), position := p2, speed := u2, band := band }
    raised := taken.raised ||| anIf (decide (st.umax < u0)) anOverspeed ||| anIf (decide (p2 < p1)) anBunch }

/-- Step 8: halted count and stall (R43). -/
def haltRun (c : PigClass) (a : Advance) : Advance :=
  let r := a.run
  if r.speed = 0 then
    let h := min 65535 (r.halted + 1)
    if r.state ≠ .stalled ∧ h = c.stallLimit then
      { run := { r with halted := h, state := .stalled }, raised := a.raised ||| anStall }
    else
      { a with run := { r with halted := h, state := if r.state = .moving then .halted else r.state } }
  else { a with run := { r with halted := 0, state := .moving } }

/-- The detector of a point is covered; a DETECTOR point without a record does not occur. -/
def State.covered (s : State) (p : Nat) : Bool := (s.detector p).elim true DetectorRec.covered

/-- What the miss check finds (R69, R70): the run, the kinds raised, the detectors missed with the count each reached, and
the detector of the second miss. -/
structure MissResult where
  run : Run
  raised : AnomalySet
  missed : List (Nat × Nat)
  lostAt : Option Nat
deriving DecidableEq, Repr

/-- The miss check over the run's next detector and those beyond it, in order (R69, R70). -/
def missCheck (m : List Point) (covered : Nat → Bool) : List Nat → MissResult → MissResult
  | [], x => { x with run := { x.run with nextDet := none } }
  | d :: ds, x =>
    if chainMm m d + x.run.band < x.run.position then
      if covered d then
        let n := x.run.misses + 1
        let r := { x.run with misses := n, nextDet := ds.head? }
        let x := { x with run := r, raised := x.raised ||| anMiss, missed := x.missed ++ [(d, n)] }
        if 2 ≤ n then
          { x with run := { r with state := .lost }, raised := x.raised ||| anLost, lostAt := some d }
        else missCheck m covered ds x
      else missCheck m covered ds x
    else { x with run := { x.run with nextDet := some d } }

/-- The detectors that step 9 looks at: the run's next detector and those beyond it. -/
def detectorsFrom (m : List Point) : Option Nat → List Nat
  | none => []
  | some d => (detectorIndices m).filter (fun i => d ≤ i)

/-- Step 9 (R44, R69). -/
def missStep (s : State) (a : Advance) : MissResult :=
  missCheck s.map s.covered (detectorsFrom s.map a.run.nextDet)
    { run := a.run, raised := a.raised, missed := [], lostAt := none }

/-- Step 10 (R44, R119). -/
def zoneStep (s : State) (x : MissResult) : Advance :=
  let z := zoneValveAt s x.run.position
  { run := { x.run with zoneValve := z }, raised := x.raised ||| anIf (z.isSome && z != x.run.zoneValve) anZone }

/-! ### The run event -/

/-- The end of a run event (R48): the anomaly sets of the run, then the alarm. -/
def endRunEvent (r : Run) (raised : AnomalySet) (s : State) : State :=
  alarmOf r raised (s.updRun r.id (fun _ => r.afterEvent s.mgmt.config.alarmMask raised))

/-- The records of the miss check, in order (Table 3-8). -/
def logMisses (x : MissResult) (s : State) : State :=
  let s := x.missed.foldl (fun s d => offer .detectorMissed x.run.id d.1 (slotNumber x.run.bound) d.2 s) s
  match x.lostAt with
  | some d => offer .runLost x.run.id d (slotNumber x.run.bound) x.run.lastFix s
  | none => s

/-- The stretch fields that an advance uses (R39). -/
def State.stretchOf (s : State) (pos : Nat) : Stretch :=
  ((s.map[stretchIndex s.map pos]?).bind Point.stretch).getD { bore := 1, umax := 0, source := none }

/-- The flow record that an advance uses (R39). -/
def State.flowFor (s : State) (pos : Nat) : Option FlowRec := (flowSource s.map (stretchIndex s.map pos)).bind s.flow

/-- Step 11: a run at or beyond the END chainage leaves as exited (R45). -/
def exitStep (r : Run) (s : State) : State :=
  if endMm s.map ≤ r.position then
    removeRun .exited r (s.map.length - 1) 0 (s.updRun r.id (fun x => { x with position := endMm s.map }))
  else s

/-- Steps 2 to 8 of the advance of a run that is not LOST (R39 to R43). -/
def moveAndHalt (s : State) (r : Run) : Advance :=
  let c := s.classOf r.cls
  haltRun c (moveRun (flowTaken (s.flowFor r.position)) (s.stretchOf r.position) c (leaderPos s.tracker.runs r.id) r)

/-- The advance of one run (R38 to R45). -/
def advanceRun (s : State) (id : Nat) : State :=
  match s.run id with
  | none => s
  | some r =>
    if r.state = .lost then s else
    let x := missStep s (moveAndHalt s r)
    let z := zoneStep s x
    exitStep z.run (endRunEvent z.run z.raised (logMisses x s))

/-- The runs advance one after another, leader first (R38). -/
def advanceAll (s : State) : State := (s.tracker.runs.map Run.id).foldl advanceRun s

/-- The section clock increments (R22). -/
def tickClock (s : State) : State := { s with tracker := { s.tracker with clock := s.tracker.clock + 1#32 } }

/-- The Run Tracker ages the flow records (R25). -/
def ageFlows (s : State) : State := s.setFlows (s.tracker.flows.map FlowRec.aged)

/-- The Run Tracker's part of a second event (R21). -/
def tickTracker (s : State) : State :=
  let s := tickClock (applyCommit s)
  if s.mgmt.mode = .transparent then s else advanceAll (ageFlows s)

/-! ### Entering and leaving by request -/

/-- REPOSITION RUN's setting of a run at a detector (R34). -/
def Run.repositioned (m : List Point) (c : PigClass) (p : Nat) (r : Run) : Run :=
  { r with position := chainMm m p, band := c.band0 * 1000, lastFix := p, nextDet := nextDetector m p, misses := 0,
           halted := 0, flowDist := 0, state := .moving }

/-- The arrival estimate (R46). -/
def arrivalEstimate (m : List Point) (r : Run) : Nat :=
  match r.nextDet with
  | none => 4294967295
  | some d =>
    if r.state ≠ .lost ∧ 0 < r.speed ∧ r.position < chainMm m d
    then (chainMm m d - r.position + r.speed - 1) / r.speed else 4294967295

end Sys2Proof.Machine
end

