-- ==== Sys2Proof/Machine/MatcherUnit.lean ====
section
/-! DEFINITION. The Passage Matcher: intake (R56 to R59), candidates, tiers and order test (R60 to R63), the fix
(R64 to R67), its records (R74) and the hold-off countdowns (R54). -/

namespace Sys2Proof.Machine

/-- The matching tiers (Table 3-3). -/
inductive Tier where
  | normal
  | extended
  | refound
deriving DecidableEq, Repr

/-- Tier codes (Table 3-3). -/
def Tier.code : Tier → Nat
  | .normal => 0
  | .extended => 1
  | .refound => 2

/-- Distance of two positions. -/
def distance (a b : Nat) : Nat := (a - b) + (b - a)

/-- The tier of the foremost candidate at a detector (R61), or nothing. -/
def tierOf (pd : Nat) (r : Run) : Option Tier :=
  if r.state = .lost then some .refound
  else if distance r.position pd ≤ r.band then some .normal
  else if distance r.position pd ≤ 2 * r.band then some .extended
  else none

/-- A run is a candidate at a detector: its last fix lies below it (R60). -/
def isCandidate (m : List Point) (pd : Nat) (r : Run) : Bool := decide (chainMm m r.lastFix < pd)

/-- Observed slip before clamping (R64). -/
def observedSlip (real flowDist : Nat) : Nat := real * 1000 / flowDist

/-- Slip clamped to 500 to 1,000 per-mille. -/
def clampSlip (s : Nat) : Nat := if s < 500 then 500 else if 1000 < s then 1000 else s

/-- The new slip: a quarter of the way, truncated toward zero (R64). -/
def adaptedSlip (s obs : Nat) : Nat := ((s : Int) + ((obs : Int) - (s : Int)).tdiv 4).toNat

/-- Slip adaptation of a run at a match in the normal or extended tier (R64), with the kinds raised. -/
def adaptSlip (m : List Point) (pd : Nat) (r : Run) : Nat × AnomalySet :=
  if r.flowDist = 0 then (r.slip, 0#11) else
  let obs := observedSlip (pd - chainMm m r.lastFix) r.flowDist
  (adaptedSlip r.slip (clampSlip obs), anIf (obs != clampSlip obs) anSlipclamp)

/-- The slip a match gives and the kinds it raises (R61, R64, R67). -/
def matchSlip (m : List Point) (pd : Nat) (t : Tier) (r : Run) : Nat × AnomalySet :=
  match t with
  | .normal => adaptSlip m pd r
  | .extended =>
    ((adaptSlip m pd r).1, (adaptSlip m pd r).2 ||| (if r.position < pd then anEarly else anLate))
  | .refound => (r.slip, 0#11)

/-- The fix of a run at a detector (R65), with its new slip. -/
def Run.fixed (m : List Point) (c : PigClass) (p slip : Nat) (r : Run) : Run :=
  { r with position := chainMm m p, slip := slip, band := c.band0 * 1000, flowDist := 0, lastFix := p,
           nextDet := nextDetector m p, misses := 0, halted := 0, state := .moving }

/-- Draws back to the detector the runs behind that stand above it (R66). -/
def drawBack (pd : Nat) (rs : List Run) : List Run :=
  rs.map (fun r => if pd < r.position then { r with position := pd } else r)

/-- The run table after a fix: the fixed run in its place, the runs behind it drawn back (R65, R66). -/
def fixInTable (id pd : Nat) (f : Run → Run) (rs : List Run) : List Run :=
  rs.takeWhile (fun r => r.id != id) ++
    match rs.dropWhile (fun r => r.id != id) with
    | [] => []
    | r :: behind => f r :: drawBack pd behind

/-- The detail of a passage record (Table 3-8). -/
def passageDetail (code dups count : Nat) : Nat := code * 4096 + dups * 256 + count

/-- An orphan (R63), with its reason of Table 3-4. -/
def orphan (p reason dups count : Nat) (s : State) : State :=
  offer .passageOrphan 0 p 255 (passageDetail reason dups count) (raise condOrphanPassage s)

/-- What matching leaves: the state, and the id of the matched run for the hand-off of R68. -/
structure Matched where
  state : State
  run : Option Nat
deriving DecidableEq, Repr

/-- The match of the foremost candidate in a tier (R64 to R67). -/
def fixRun (p dups count : Nat) (t : Tier) (r : Run) (s : State) : State :=
  let pd := chainMm s.map p
  let x := matchSlip s.map pd t r
  let fixed := r.fixed s.map (s.classOf r.cls) p x.1
  let s := s.setRuns (fixInTable r.id pd (fun _ => fixed) s.tracker.runs)
  let s := offer .passageMatched r.id p (slotNumber r.bound) (passageDetail t.code dups count) s
  endRunEvent fixed x.2 s

/-- Matching of a passage taken at a detector (R60 to R63). -/
def matchPassage (p dups count : Nat) (s : State) : Matched :=
  let pd := chainMm s.map p
  match s.tracker.runs.find? (isCandidate s.map pd) with
  | none => ⟨orphan p 0 dups count s, none⟩
  | some r =>
    match tierOf pd r with
    | none => ⟨orphan p 2 dups count s, none⟩
    | some t =>
      if (runsBehind s.tracker.runs r.id).any (fun x => decide (pd < chainMm s.map x.lastFix)) then
        ⟨orphan p 3 dups count s, none⟩
      else ⟨fixRun p dups count t r s, some r.id⟩

/-- Intake of a passage mapped to a detector (R57, R58, R59). Direction 1 is REVERSE; any other code is matched (R56). -/
def takePassage (p : Nat) (payload : List Byte) (s : State) : Matched :=
  match s.detector p with
  | none => ⟨s, none⟩
  | some d =>
    let count := byteAt payload 1
    if byteAt payload 2 = 1 then
      ⟨offer .passageOrphan 0 p 255 (passageDetail 1 d.duplicates count) s, none⟩
    else if 0 < d.holdOff then
      ⟨s.updDetector p (fun d => { d with duplicates := min 15 (d.duplicates + 1) }), none⟩
    else
      let hold := ((detectorPart s.map p).map Prod.snd).getD 0
      matchPassage p d.duplicates count (s.updDetector p (fun d => { d with holdOff := hold, duplicates := 0 }))

/-- The Passage Matcher's part of a second event (R54). -/
def tickHoldOff (s : State) : State :=
  if s.mgmt.mode = .transparent then s
  else s.setDetectors (s.matcher.detectors.map (fun d => { d with holdOff := d.holdOff - 1 }))

end Sys2Proof.Machine
end

