-- ==== Sys2Proof/Machine/SequenceUnit.lean ====
section
/-! DEFINITION. The Sequence Unit: steps (R135 to R141), cycles and trains (R143 to R145), takeover (R146) and its part
of a second event (R137). -/

namespace Sys2Proof.Machine

/-- Changes a slot's record. -/
def State.updSlot (s : State) (k : SlotId) (f : Slot → Slot) : State := s.setSlot k (f (s.slot k))

/-- The program a slot holds. -/
def State.programOf (s : State) (k : SlotId) : Option Program := (s.slot k).program.bind s.programAt

/-- The trap point of a slot's program; 255 for none. -/
def State.trapOf (s : State) (k : SlotId) : Nat := (s.programOf k).elim 255 Program.trap

/-- The index of the first step of a slot's program. -/
def State.firstStepOf (s : State) (k : SlotId) : Nat := (s.programOf k).elim 0 Program.first

/-- The record of a slot's current step. -/
def State.currentStep (s : State) (k : SlotId) : Option StepRec := (s.slot k).step.bind s.stepAt

/-- The operand point of a slot's current step. -/
def State.stepPoint (s : State) (k : SlotId) : Option Nat := (s.currentStep k).bind StepRec.operand

/-- The VALVE points named by the OPEN and CLOSE steps of a program, each once, in order of index (R110). -/
def programValves (t : SeqTable) (p : Program) : List Nat :=
  (List.range 64).filter (fun i => (programSteps t p).any (fun o =>
    o.elim false (fun r => (r.action == .openValve || r.action == .closeValve) && r.operand == some i)))

/-! ### Orders -/

/-- The VALVE ORDER of a slot's current step (R136): to the node of its valve, tagged with the slot number, with order
tag 128 + the step's index. -/
def stepOrderFrame (k : SlotId) (s : State) : Frame :=
  let p := (s.stepPoint k).getD 255
  let node := ((s.map[p]?).bind Point.node).getD 0
  let action := if (s.currentStep k).elim false (fun r => r.action == .openValve) then actionOpen else actionClose
  mkFrame node s.ownNode kindValveOrder (byte k.val) [byte action, byte (128 + (s.slot k).step.getD 0)]

/-- Places the current step's order when the slot's place is empty; otherwise it awaits the place (R136). -/
def issueOrder (k : SlotId) (s : State) : State :=
  match s.order k with
  | none =>
    (s.setOrder k (some { frame := stepOrderFrame k s, begun := false, logged := false })).updSlot k
      (fun r => { r with order := .queued })
  | some _ => s.updSlot k (fun r => { r with order := .awaitingPlace })

/-- Withdraws an order that waits in the slot's place with no attempt begun (R89). -/
def withdrawOrder (k : SlotId) (s : State) : State :=
  match s.order k with
  | some o => if o.begun then s else s.setOrder k none
  | none => s

/-! ### Termination (R145) -/

/-- A slot enters IDLE: its fields of R145, and its reservation is released (R110). -/
def enterIdle (k : SlotId) (s : State) : State :=
  releaseValves k (s.updSlot k (fun r =>
    { r with state := .idle, step := none, countdown := 0, order := .none, permit := false, reserved := [] }))

/-- A slot enters ARMED (R145). -/
def enterArmed (k : SlotId) (s : State) : State :=
  s.updSlot k (fun r => { r with state := .armed, step := none, countdown := 0, order := .none })

/-- A slot leaves for a state and, when it goes straight on, the step it starts. -/
structure StepFlow where
  state : State
  goto : Option Nat
deriving DecidableEq, Repr

/-- A slot enters SPACING (R144); with a spacing of 0 it goes straight to the program's first step. At entry
end-requested is clear, since the END step and every termination have just looked at it or cleared it. -/
def enterSpacing (k : SlotId) (s : State) : StepFlow :=
  if (s.slot k).spacing = 0 then ⟨s.updSlot k (fun r => { r with state := .running, countdown := 0 }), some (s.firstStepOf k)⟩
  else ⟨s.updSlot k (fun r => { r with state := .spacing, countdown := r.spacing }), none⟩

/-- The current count is reloaded from the base count (Table 6-7). -/
def reloadCount (k : SlotId) (s : State) : State := s.updSlot k (fun r => { r with count := r.base })

/-- The rows of Table 6-7 that return a slot to IDLE from outside its program: ABORT, MODE CHANGE, WARM RESTART (R132). -/
def dropTrain (k : SlotId) (s : State) : State :=
  enterIdle k ((unbindSlot k (reloadCount k s)).updSlot k (fun r => { r with chain := none }))

/-- The COUNT rows of Table 6-7. -/
def endByCount (k : SlotId) (s : State) : StepFlow :=
  match (s.slot k).chain with
  | some ch =>
    enterSpacing k (s.updSlot k (fun r =>
      { r with cls := ch.cls, mode := ch.mode, base := ch.base, count := ch.base, spacing := ch.spacing, chain := none }))
  | none =>
    if (s.slot k).autoRepeat then ⟨enterArmed k (reloadCount k s), none⟩ else ⟨enterIdle k (reloadCount k s), none⟩

/-- What the row of a cause does to the slot (Table 6-7). -/
def afterTermination (k : SlotId) (cause : Cause) (s : State) : StepFlow :=
  match cause with
  | .count => endByCount k s
  | .endRequest => ⟨enterArmed k (reloadCount k s), none⟩
  | .permitWithdrawn => ⟨enterArmed k s, none⟩
  | .stepFailed => ⟨s.updSlot k (fun r => { r with state := .failed }), none⟩
  | .takeover => ⟨s.updSlot k (fun r => { r with state := .observe, order := .none }), none⟩
  | .abort => ⟨dropTrain k s, none⟩
  | .modeChange => ⟨dropTrain k s, none⟩
  | .warmRestart => ⟨dropTrain k s, none⟩

/-- The condition a cause sets (Table 6-7). -/
def causeCondition (cause : Cause) (s : State) : State :=
  match cause with
  | .stepFailed => raise condSequenceFailed s
  | .takeover => raise condTakeover s
  | _ => s

/-- A train terminates (R145). `bound` is the bound run's id before any unbinding, or 0 (log entry 14). -/
def terminate (k : SlotId) (cause : Cause) (bound : Nat) (s : State) : StepFlow :=
  let s := offer .slotEnded bound (s.trapOf k) k.val (cause.code * 256 + (s.slot k).step.getD 255) s
  let s := withdrawOrder k s
  let s := causeCondition cause s
  afterTermination k cause (s.updSlot k (fun r => { r with endRequested := false, cause := some cause }))

/-- The id of a slot's bound run, or 0. -/
def boundId (s : State) (k : SlotId) : Nat := ((s.slot k).bound).getD 0

/-- A termination of a slot from outside its program. -/
def terminateNow (k : SlotId) (cause : Cause) (s : State) : State := (terminate k cause (boundId s k) s).state

/-! ### Step starts -/

/-- The END step (R143). -/
def endStep (k : SlotId) (s : State) : StepFlow :=
  let bound := boundId s k
  let s := unbindSlot k s
  let r := s.slot k
  if r.endRequested then terminate k .endRequest bound s
  else if r.count = 0 then terminate k .count bound s
  else
    match r.mode, r.permit with
    | .train, _ => enterSpacing k s
    | .single, _ => ⟨s.updSlot k (fun r => { r with state := .waitStart }), none⟩
    | .permissive, true => enterSpacing k s
    | .permissive, false => terminate k .permitWithdrawn bound s

/-- INSERT RUN (R31, R139). The step completes with the new run bound, or the train fails. -/
def insertRunStep (k : SlotId) (next : Nat) (s : State) : StepFlow :=
  let bound := boundId s k
  let s := unbindSlot k s
  if s.hasRoom then
    let id := s.nextRunId
    let trap := s.trapOf k
    let cls := (s.slot k).cls
    let s := enterRun (entryRun s id cls trap (.launched k) (some k)) s
    let s := offer .runInserted id trap k.val cls s
    ⟨s.updSlot k (fun r => { r with bound := some id, count := r.count - 1 }), some next⟩
  else terminate k .stepFailed bound s

/-- REMOVE RUN (R36, R139). -/
def removeRunStep (k : SlotId) (next : Nat) (s : State) : StepFlow :=
  match (s.slot k).bound.bind s.run with
  | some r =>
    let s := removeRun .received r (s.trapOf k) 0 s
    ⟨s.updSlot k (fun r => { r with bound := none, count := r.count - 1 }), some next⟩
  | none => terminate k .stepFailed (boundId s k) s

/-- The threshold of AWAIT APPROACH in mm (R141). -/
def approachThreshold (m : List Point) (p d : Nat) : Nat := chainMm m p - d * 1000

/-- The approach test (R141): the state when the step completes, with the binding it makes. -/
def approachTest (k : SlotId) (p d : Nat) (s : State) : Option State :=
  let th := approachThreshold s.map p d
  match (s.slot k).bound with
  | some id => if (s.run id).elim false (fun r => decide (th ≤ r.position)) then some s else none
  | none =>
    match s.tracker.runs.find? (fun r => decide (r.position < chainMm s.map p) && r.bound.isNone) with
    | some r => if th ≤ r.position then some (bindSlot k r.id s) else none
    | none => none

/-- The countdown a step loads at its start (R135). -/
def StepRec.load (r : StepRec) : Nat :=
  match r.action with
  | .dwell => r.value
  | .insertRun => 0
  | .removeRun => 0
  | .endCycle => 0
  | _ => r.timeout

/-- The step uses the step countdown (R123, R133). -/
def StepRec.usesCountdown (r : StepRec) : Bool :=
  match r.action with
  | .insertRun => false
  | .removeRun => false
  | .endCycle => false
  | _ => true

/-- The state goes on to the next step when a condition holds, and waits otherwise. -/
def waitUnless (done : Bool) (next : Nat) (s : State) : StepFlow := ⟨s, if done then some next else none⟩

/-- The start action of a step (Table 6-3). -/
def startAction (k : SlotId) (i : Nat) (r : StepRec) (s : State) : StepFlow :=
  match r.action with
  | .openValve => ⟨issueOrder k s, none⟩
  | .closeValve => ⟨issueOrder k s, none⟩
  | .verifyOpen => waitUnless (r.operand.elim false (fun p => s.believed p .opened)) (i + 1) s
  | .verifyClosed => waitUnless (r.operand.elim false (fun p => s.believed p .closed)) (i + 1) s
  | .dwell => waitUnless ((s.slot k).countdown == 0) (i + 1) s
  | .insertRun => insertRunStep k (i + 1) s
  | .awaitPassage => ⟨s, none⟩
  | .awaitApproach =>
    match approachTest k (r.operand.getD 255) r.value s with
    | some s' => ⟨s', some (i + 1)⟩
    | none => ⟨s, none⟩
  | .removeRun => removeRunStep k (i + 1) s
  | .endCycle => endStep k s

/-- The start of one step (R135). After RESUME a step that uses the countdown keeps it (R133). -/
def beginStep (k : SlotId) (i : Nat) (keep : Bool) (s : State) : StepFlow :=
  match s.stepAt i with
  | none => ⟨s, none⟩
  | some r =>
    let s := s.updSlot k (fun x =>
      { x with step := some i, order := .none, countdown := if keep && r.usesCountdown then x.countdown else r.load })
    startAction k i r s

/-- Steps that complete at their start are followed by the next (R135). The fuel bounds the chain: a train has at most
16 cycles of at most 32 steps, and takes up at most one chain record of as many (log entry 24). -/
def runSteps : Nat → SlotId → Nat → Bool → State → State
  | 0, _, _, _, s => s
  | fuel + 1, k, i, keep, s =>
    match beginStep k i keep s with
    | ⟨s', some j⟩ => runSteps fuel k j false s'
    | ⟨s', none⟩ => s'

/-- More step starts than any chain of completed steps can take. -/
def stepFuel : Nat := 2048

/-- A slot starts a step (R135). -/
def startStep (k : SlotId) (i : Nat) (s : State) : State := runSteps stepFuel k i false s

/-- The current step completes and the next is started (R135). -/
def completeStep (k : SlotId) (s : State) : State := (s.slot k).step.elim s (fun i => startStep k (i + 1) s)

/-! ### Completions by events -/

/-- The position that completes an OPEN or CLOSE step. -/
def Action.target : Action → Option ValveState
  | .openValve => some .opened
  | .closeValve => some .closed
  | _ => none

/-- The position that completes a VERIFY step. -/
def Action.verified : Action → Option ValveState
  | .verifyOpen => some .opened
  | .verifyClosed => some .closed
  | _ => none

/-- The operand valve of a slot's current step is believed in the position that completes the step. -/
def State.stepValveIn (s : State) (k : SlotId) (f : Action → Option ValveState) : Bool :=
  match s.currentStep k with
  | some r => (f r.action).elim false (fun st => r.operand.elim false (fun p => s.believed p st))
  | none => false

/-- Port B delivered the order in a slot's place (R136). It is the current step's own when the step order is QUEUED. -/
def slotDelivered (k : SlotId) (s : State) : State :=
  if (s.slot k).state = .running ∧ (s.slot k).order = .queued then
    let s := s.updSlot k (fun r => { r with order := .delivered })
    if s.stepValveIn k Action.target then completeStep k s else s
  else s

/-- A slot's place loses the current step's own order by discard or link clear (R136, R149). -/
def loseOrder (k : SlotId) (s : State) : State :=
  if (s.slot k).order = .queued then s.updSlot k (fun r => { r with order := .lost }) else s

/-- Places the order of a step that awaits its place, when the place is empty (R136). Every event in which an order leaves
its place ends with this, so SLOT_ORDER_PLACED finds it done (log entry 36). R136 and R149 name no slot state: that a FAILED slot
which kept AWAITING PLACE gets no order placed, and keeps that value, is the model's reading (log entry 44). -/
def placeAwaiting (k : SlotId) (s : State) : State :=
  if (s.slot k).state = .running ∧ (s.slot k).order = .awaitingPlace ∧ s.order k = none then issueOrder k s else s

/-- A report is a takeover of the slot that reserved its valve (R146). -/
def takeoverTest (p : Nat) (s : State) : State :=
  match s.valve p with
  | none => s
  | some v =>
    match v.reserving with
    | none => s
    | some k =>
      let st := (s.slot k).state
      if v.location = .localControl ∧ (st = .running ∨ st = .spacing ∨ st = .waitStart) then terminateNow k .takeover s
      else s

/-- A report is offered to one slot (R136, R137). -/
def offerReport (p : Nat) (s : State) (k : SlotId) : State :=
  let r := s.slot k
  if r.state = .running ∧ s.stepPoint k = some p ∧
     ((r.order = .delivered ∧ s.stepValveIn k Action.target) ∨ s.stepValveIn k Action.verified) then completeStep k s
  else s

/-- A VALVE STATE report is handed to the Sequence Unit (R102 step 5): first the takeover test, then the slots in order
of slot number (log entry 15). -/
def handReport (p : Nat) (s : State) : State := slotIds.foldl (offerReport p) (takeoverTest p s)

/-- A slot stands in RUNNING at AWAIT PASSAGE at a detector (R140). -/
def State.awaitsPassage (s : State) (p : Nat) (k : SlotId) : Bool :=
  (s.slot k).state == .running && (s.currentStep k).elim false (fun r => r.action == .awaitPassage) &&
    s.stepPoint k == some p

/-- A match is handed to the Sequence Unit (R68, R140). -/
def handPassage (p id : Nat) (s : State) : State :=
  match (s.run id).bind Run.bound with
  | some k => if s.awaitsPassage p k then completeStep k s else s
  | none =>
    match slotIds.find? (fun k => s.awaitsPassage p k && (s.slot k).bound.isNone) with
    | some k => completeStep k (bindSlot k id s)
    | none => s

/-! ### The second event -/

/-- A step times out (R138). Whatever order waits in the slot's place with no attempt begun is withdrawn, an earlier order
that a held repeat has returned to waiting included: R89 and R92 say so of the place, where R138 speaks of an order of the
step (log entry 39). -/
def timeoutStep (k : SlotId) (s : State) : State :=
  match s.currentStep k with
  | none => s
  | some r =>
    if r.continueOn then completeStep k (withdrawOrder k s) else terminateNow k .stepFailed s

/-- The countdown of a slot in RUNNING has become 0 (R137). -/
def stepCountdownEnds (k : SlotId) (s : State) : State :=
  if (s.currentStep k).elim false (fun r => r.action == .dwell) then completeStep k s else timeoutStep k s

/-- The spacing ends (R144). -/
def spacingEnds (k : SlotId) (s : State) : State :=
  if (s.slot k).endRequested then terminateNow k .endRequest s
  else startStep k (s.firstStepOf k) (s.updSlot k (fun r => { r with state := .running }))

/-- The approach test of a slot in RUNNING at AWAIT APPROACH (R137, R141). -/
def approachAtTick (k : SlotId) (s : State) : Option State :=
  match s.currentStep k with
  | some r => if r.action = .awaitApproach then approachTest k (r.operand.getD 255) r.value s else none
  | none => none

/-- The countdown of a slot decreases by one; what is due at 0 follows. -/
def countSlotDown (k : SlotId) (atZero : State → State) (s : State) : State :=
  let n := (s.slot k).countdown
  if n = 0 then s else
  let s := s.updSlot k (fun r => { r with countdown := n - 1 })
  if n = 1 then atZero s else s

/-- One slot's part of a second event (R137, R144). A step that the approach test completes is not counted down, and the
step it leads to counts from the next second event (log entry 16). -/
def tickSlot (s : State) (k : SlotId) : State :=
  match (s.slot k).state with
  | .running =>
    match approachAtTick k s with
    | some s' => completeStep k s'
    | none => countSlotDown k (stepCountdownEnds k) s
  | .spacing => countSlotDown k (spacingEnds k) s
  | _ => s

/-- The Sequence Unit's part of a second event (R137). -/
def tickSlots (s : State) : State := if s.mgmt.mode = .guarded then slotIds.foldl tickSlot s else s

end Sys2Proof.Machine
end

