-- ==== Sys2Proof/Machine/WatchList.lean ====
section
/-! DEFINITION. The watch list (R168 to R170). -/

namespace Sys2Proof.Machine

/-- The direction of a watch entry takes in a direction of travel. -/
def WatchDir.takes (d : WatchDir) (up : Bool) : Bool :=
  match d with
  | .down => !up
  | .up => up
  | .either => true

/-- A telegram matches an entry (R169). The node compared is its destination when it goes down, its source when it goes
up. -/
def WatchEntry.hits (up : Bool) (node kind : Nat) (w : WatchEntry) : Bool :=
  w.enabled && ((node ^^^ w.node) &&& w.mask) == 0 && w.kind.elim true (fun k => k == kind) && w.dir.takes up

/-- The watch list examines a telegram: the first entry that it matches acts (R169, R170). A destination byte above 127 is
compared and recorded as it stands, so WATCH HIT may carry such a point (log entry 40). -/
def watchTelegram (up : Bool) (f : Frame) (s : State) : State :=
  let node := if up then frameSource f else frameDest f
  match s.tables.watch.findIdx? (fun w => w.hits up node (frameKind f)) with
  | none => s
  | some i =>
    let s' := offer .watchHit 0 node (i + if up then 16 else 0) (frameKind f * 256 + (frameTag f).toNat) s
    if (s.tables.watch.getD i WatchEntry.initial).freeze then freezeLog s' else s'

end Sys2Proof.Machine
end

