-- ==== Sys2Proof/Machine/InputSlot.lean ====
section
/-! DEFINITION. The input slot of the Management Unit: intake (R175), service (R176, R177), and the making of answers
(R87). -/

namespace Sys2Proof.Machine

/-- Status OK (Table 9-1). -/
def stOk : Nat := 0
/-- BUSY. -/
def stBusy : Nat := 1
/-- DENIED. -/
def stDenied : Nat := 2
/-- BAD REQUEST. -/
def stBadRequest : Nat := 3
/-- OUT OF RANGE. -/
def stOutOfRange : Nat := 4
/-- WRONG MODE. -/
def stWrongMode : Nat := 5
/-- PENDING. -/
def stPending : Nat := 6
/-- RUNS ACTIVE. -/
def stRunsActive : Nat := 7
/-- SLOT ACTIVE. -/
def stSlotActive : Nat := 8
/-- CONFLICT. -/
def stConflict : Nat := 9
/-- NOT FOUND. -/
def stNotFound : Nat := 11
/-- TABLE FULL. -/
def stTableFull : Nat := 12
/-- ORDER VIOLATION. -/
def stOrderViolation : Nat := 13
/-- LOCAL ACTIVE. -/
def stLocalActive : Nat := 14
/-- WRONG STATE. -/
def stWrongState : Nat := 15

/-- The request codes of Table 9-2. -/
def requestCodes : List Nat :=
  [1, 2, 3, 4, 5, 6, 7, 10, 11, 12, 13, 14, 15, 16, 20, 21, 22, 23, 30, 31, 32, 33, 34, 35, 36, 37, 38, 40, 41, 42, 45,
   46, 47]

/-- The request has a code of Table 9-2. -/
def Request.known (r : Request) : Bool := r.code.elim false (fun c => requestCodes.contains c)

/-- The request in service leaves, and the waiting request moves into service (R176). -/
def leaveService (s : State) : State :=
  s.setInput (s.mgmt.waiting.map (fun r => { request := r, phase := .unserved })) none

/-- A request in service whose code is not in the table is answered BAD REQUEST when a place is free (R177 step 1; log
entry 20). -/
def answerUnknown (s : State) : State :=
  match s.mgmt.service with
  | some ⟨r, .unserved⟩ =>
    if r.known = false ∧ 0 < s.freePlaces then leaveService (answerRequest r stBadRequest [] false s) else s
  | _ => s

/-- What the Management Unit does without a request's own row: both places may hold a request with an unknown code. -/
def settleInput (s : State) : State := answerUnknown (answerUnknown s)

/-- An answer is made and its request leaves service (R176, R177). -/
def answerAndLeave (r : Request) (status : Nat) (data : List Byte) (s : State) : State :=
  settleInput (leaveService (answerRequest r status data false s))

/-- What serving a request gives: the state after its effect, and the status and data of its answer. A refused request
changes nothing and carries no data (R177). -/
structure Served where
  state : State
  status : Nat
  data : List Byte
deriving DecidableEq, Repr

/-- A refused request. -/
def refuse (status : Nat) (s : State) : Served := ⟨s, status, []⟩

/-- A request answered OK. -/
def served (data : List Byte) (s : State) : Served := ⟨s, stOk, data⟩

/-- Serves the request in service when it has this code and a place of the answer queue is free (R176); an argument
length that differs from the layout is BAD REQUEST (R177 step 2). -/
def serveRequest (code : Nat) (lengthOk : List Byte → Bool) (body : List Byte → State → Served) (s : State) : State :=
  match s.mgmt.service with
  | some ⟨r, .unserved⟩ =>
    if r.code = some code ∧ 0 < s.freePlaces then
      let x := if lengthOk r.args then body r.args s else refuse stBadRequest s
      answerAndLeave r x.status x.data x.state
    else s
  | _ => s

/-- An argument length. -/
def hasLength (n : Nat) (args : List Byte) : Bool := args.length == n

/-- Makes the answer of an applied COMMIT when a place is free (R87). -/
def answerCommit (s : State) : State :=
  match s.mgmt.service with
  | some ⟨r, .commitApplied status data⟩ => if 0 < s.freePlaces then answerAndLeave r status data s else s
  | _ => s

/-- Intake of a MGMT REQUEST handed over by Port A (R175). -/
def intake (f : Frame) (s : State) : State :=
  let r : Request := { source := frameSource f, tag := frameTag f, payload := framePayload f }
  if s.mgmt.config.managerNode ≠ 0 ∧ s.mgmt.config.managerNode ≠ r.source then
    answerRequest r stDenied [] false s
  else
    match s.mgmt.service, s.mgmt.waiting with
    | some _, some _ => answerRequest r stBusy [] false s
    | some v, none => s.setInput (some v) (some r)
    | none, w => settleInput (s.setInput (some { request := r, phase := .unserved }) w)

end Sys2Proof.Machine
end

