-- ==== Sys2Proof/Machine/Lifecycle.lean ====
section
/-! DEFINITION. Power-on, warm restart (R188, R189), link clear (R95) and the mode machine (R185), with the commands of
the supply and the hardware lines (R98). -/

namespace Sys2Proof.Machine

/-- The node number that the straps give; 0 and 127 give none (R98, R186). -/
def nodeOfStraps (straps : BitVec 7) : Option Nat :=
  if straps = 0#7 ∨ straps = 127#7 then none else some straps.toNat

/-- A port's link at a warm restart (Table 4-9). -/
def Link.restarted (l : Link) : Link := { l.abandon with checkErrors := 0 }

/-- Terminates the train of every slot that is not IDLE, in order of slot number: R148 states that order for a mode change; R150
and R188 state none for a warm restart, and the same order there is the model's choice (log entry 41). -/
def terminateAll (cause : Cause) (s : State) : State :=
  slotIds.foldl (fun s k => if (s.slot k).state = .idle then s else terminateNow k cause s) s

/-- A slot's values after a warm restart (R150). -/
def Slot.restarted (r : Slot) : Slot := { Slot.initial with cause := r.cause }

/-- The effects of a warm restart that follow the SLOT ENDED records (R188). -/
def restartEffects (straps : BitVec 7) (s : State) : State :=
  rebuildDerived
    { s with
      tables := { s.tables with shadow := Tables.empty, pendingCommit := none }
      tracker := { clock := s.tracker.clock, flows := [], runs := [], lastId := 0, inserted := 0#32, received := 0#32,
                   exited := 0#32, abandoned := 0#32 }
      seq := { slots := ⟨s.seq.slots.s0.restarted, s.seq.slots.s1.restarted, s.seq.slots.s2.restarted,
                         s.seq.slots.s3.restarted⟩ }
      scan := { s.scan with countdown := 0 }
      mgmt := { config := s.mgmt.config, mode := .transparent, conditions := 0#13, service := none, waiting := none }
      portA := { link := s.portA.link.restarted, down := [], answers := [], alert := none }
      portB := { link := s.portB.link.restarted, up := [], orders := ⟨none, none, none, none⟩, burst := 0,
                 turnForward := false }
      lines := { s.lines with straps := straps, nodeNumber := nodeOfStraps straps } }

/-- A warm restart (R188). -/
def warmRestart (straps : BitVec 7) (s : State) : State := restartEffects straps (terminateAll .warmRestart s)

/-- The state at the end of power-on initialisation (R189). What was put on the link before stays in the model's record
of it. -/
def powerOnState (straps : BitVec 7) (s : State) : State :=
  { State.reset with
    portA := { State.reset.portA with link := { Link.initial with wire := s.portA.link.wire } }
    portB := { State.reset.portB with link := { Link.initial with wire := s.portB.link.wire } }
    lines := { straps := straps, nodeNumber := nodeOfStraps straps, bypassClosed := false }
    fresh := s.fresh
    pending := s.pending }

/-- The clearing itself (R95, R149). -/
def clearLinks (s : State) : State :=
  let s := slotIds.foldl (fun s k => if (s.order k).isSome then loseOrder k s else s) s
  let s : State :=
    { s with
      portA := { link := s.portA.link.abandon, down := [], answers := [], alert := none }
      portB := { s.portB with link := s.portB.link.abandon, up := [], orders := ⟨none, none, none, none⟩, burst := 0 } }
  slotIds.foldl (fun s k => placeAwaiting k s) (raise condLinkCleared s)

/-- The answer of a RESTART stands in the answer queue (R187). -/
def State.restartQueued (s : State) : Bool := s.portA.answers.any Answer.restart

/-- A link clear from the input (R95). When it empties the answer of a RESTART, the warm restart takes effect after the
clearing (R187, R190). -/
def linkClearFromInput (s : State) : State :=
  if s.restartQueued then warmRestart s.lines.straps (clearLinks s) else settleInput (clearLinks s)

/-! ### The mode machine -/

/-- Every run is removed as abandoned, leader first (R50, Table 2-3). -/
def abandonAll (s : State) : State :=
  s.tracker.runs.foldl (fun s r => removeRun .abandoned r r.lastFix 1 s) s

/-- Rows 3 to 6 of Table 9-5: the records of the line take their initial values. -/
def resetRecords (s : State) : State :=
  let s := s.setFlows (s.tracker.flows.map (fun f => FlowRec.initial f.point))
  let s := s.setDetectors (s.matcher.detectors.map (fun d => DetectorRec.initial d.point))
  let s := s.setValves (s.interlock.valves.map (fun v => ValveRec.initial v.point))
  { s with scan := { nodes := s.scan.nodes.map (fun r => NodeRec.initial r.node), pollList := [], countdown := 0 } }

/-- The mode takes its new value. -/
def State.setMode (s : State) (m : Mode) : State := { s with mgmt := { s.mgmt with mode := m } }

/-- Row 8 of Table 9-5: the poll pending list is filled and the scan countdown loaded (R152). -/
def startScan (s : State) : State :=
  { s with scan := { s.scan with pollList := s.scan.nodes.map NodeRec.node, countdown := s.mgmt.config.scanInterval } }

/-- A mode change, row by row of Table 9-5 (R185). -/
def changeMode (new : Mode) (s : State) : State :=
  let old := s.mgmt.mode
  let s := if old = .guarded ∨ new = .transparent then terminateAll .modeChange s else s
  let s := if new = .transparent then resetRecords (abandonAll s) else s
  let s := s.setMode new
  let s := if old = .transparent then startScan s else s
  offer .modeChanged 0 255 255 (old.code * 256 + new.code) s

/-! ### Commands -/

/-- POWER_ON (R189). -/
def execPowerOn (straps : BitVec 7) (s : State) : Host.Outcome State Fault Refusal := .next (powerOnState straps s)

/-- POWER_LOSS (R98): the relay closes. What the unpowered controller holds is read by nothing until the next power-on
(log entry 17). -/
def execPowerLoss (s : State) : Host.Outcome State Fault Refusal :=
  .next { s with lines := { s.lines with bypassClosed := true } }

/-- WARM_RESTART (R188), from either cause (log entry 32). -/
def execWarmRestart (straps : BitVec 7) (s : State) : Host.Outcome State Fault Refusal := live (warmRestart straps) s

/-- A pulse on an input acts at the moment its first millisecond is over, once (R95, R98). -/
def pulseActs (lowMicros : Nat) : Bool := decide (1000 ≤ lowMicros)

/-- The strap lines change their levels; nothing reads them until the next reading (R98). -/
def setStraps (straps : BitVec 7) (s : State) : State := { s with lines := { s.lines with straps := straps } }

/-- WARM_RESTART_INPUT (R98, R187). -/
def execWarmRestartInput (lowMicros : Nat) (straps : BitVec 7) (s : State) : Host.Outcome State Fault Refusal :=
  live (fun s => if pulseActs lowMicros then warmRestart straps s else setStraps straps s) s

/-- LINK_CLEAR_INPUT (R95). -/
def execLinkClearInput (lowMicros : Nat) (s : State) : Host.Outcome State Fault Refusal :=
  live (fun s => if pulseActs lowMicros then linkClearFromInput s else s) s

end Sys2Proof.Machine
end

