-- ==== Sys2Proof/Machine/Path.lean ====
section
/-! DEFINITION. The telegram path: the receive paths (R79, R82 to R84), link replies, repeats and discards (R80, R81), the
two arbiters (R90 to R94), and the commands of the two ports. -/

namespace Sys2Proof.Machine

/-- A port sends a link reply, or owes it to the end of its telegram (R79). -/
def sendReply (p : Port) (r : Reply) (s : State) : State := s.updLink p (Link.reply r)

/-- Capacity of the down queue (R85). -/
def downCapacity : Nat := 16
/-- Capacity of the up queue (R86). -/
def upCapacity : Nat := 24

/-! ### Receiving on Port A -/

/-- A good telegram that ends on Port A (R82). -/
def takeOnA (f : Frame) (s : State) : State :=
  if s.freePlaces = 0 then sendReply .a .wait s
  else if s.lines.nodeNumber = some (frameDest f) then
    if frameKind f = kindRequest then intake f (sendReply .a .accept s) else sendReply .a .accept s
  else if s.portA.down.length < downCapacity then
    let s := watchTelegram false f (sendReply .a .accept s)
    s.setDown (s.portA.down ++ [f])
  else if s.mgmt.config.downDrop then
    raise condDownOverflow (watchTelegram false f (sendReply .a .accept s))
  else sendReply .a .wait s

/-! ### Receiving on Port B -/

/-- A PASSAGE at its detector, and the hand-off of a match (R56, R68). -/
def examinePassage (f : Frame) (s : State) : State :=
  match detectorOfNode s.map (frameSource f) (byteAt (framePayload f) 0) with
  | none => s
  | some p =>
    let x := takePassage p (framePayload f) s
    x.run.elim x.state (fun id => handPassage p id x.state)

/-- A VALVE STATE at its valve, and the hand-over to the Sequence Unit (R101, R102). -/
def examineValveState (f : Frame) (s : State) : State :=
  match valveOfNode s.map (frameSource f) with
  | none => s
  | some p => handReport p (takeValveReport p (framePayload f) s)

/-- Step 2 of the examination (Table 4-5): a payload shorter than its layout is not handed over (R84). -/
def examineKind (f : Frame) (s : State) : State :=
  let n := (framePayload f).length
  if frameKind f = kindPassage ∧ 3 ≤ n then examinePassage f s
  else if frameKind f = kindFlowReport ∧ 4 ≤ n then takeFlowReport (frameSource f) (framePayload f) s
  else if frameKind f = kindValveState ∧ 4 ≤ n then examineValveState f s
  else if frameKind f = kindNodeState ∧ 1 ≤ n then takeNodeState (frameSource f) (framePayload f) s
  else s

/-- The examination of a telegram taken on Port B, in the order of Table 4-5 (R84). -/
def examine (f : Frame) (s : State) : State :=
  let s := if s.mgmt.mode = .transparent then s else examineKind f (hearNode (frameSource f) s)
  watchTelegram true f s

/-- A good telegram that ends on Port B (R83). -/
def takeOnB (f : Frame) (s : State) : State :=
  if s.lines.nodeNumber = some (frameDest f) then examine f (sendReply .b .accept s)
  else if s.portB.up.length < upCapacity then
    let s := examine f (sendReply .b .accept s)
    s.setUp (s.portB.up ++ [f])
  else if s.mgmt.config.upDrop then raise condUpOverflow (examine f (sendReply .b .accept s))
  else sendReply .b .wait s

/-- A frame ends on a port (R77, R79). The end of a frame that a link clear or a restart abandoned is no telegram (R95,
R97; log entry 9). -/
def receiveFrame (p : Port) (f : Frame) (take : Frame → State → State) (s : State) : State :=
  if (s.link p).abandoned && !(s.link p).receiving then s.updLink p (fun l => { l with abandoned := false })
  else
    let s := s.updLink p (fun l => { l with receiving := false, abandoned := false })
    if frameBad f then badTelegram p s else take f s

/-- A frame starts on a port (R79); one that it cuts short is a bad telegram (R77). -/
def startFrame (p : Port) (s : State) : State :=
  let s := if (s.link p).receiving then badTelegram p s else s
  s.updLink p (fun l => { l with receiving := true, abandoned := false })

/-! ### Granting Port A -/

/-- The ALERT of the pending place as a telegram (R88, Table 10-2). -/
def alertFrame (s : State) (a : Alert) : Frame :=
  mkFrame a.dest s.ownNode kindAlert 0#8 (put16 a.word.toNat ++ put32 a.clock.toNat)

/-- A port begins to transmit a telegram. -/
def transmit (p : Port) (t : Tx) (s : State) : State := s.updLink p (Link.transmit t)

/-- The Port A arbiter (R94). -/
def grantA (s : State) : State :=
  if s.portA.link.tx.isSome then s else
  match s.portA.answers, s.portA.alert, s.portB.up with
  | a :: _, _, _ => transmit .a (Tx.fresh .answer a.frame) s
  | [], some al, _ => transmit .a (Tx.fresh .alert (alertFrame s al)) (s.setAlert none)
  | [], none, f :: _ => transmit .a (Tx.fresh .up f) s
  | [], none, [] => s

/-! ### Granting Port B -/

/-- A waiting slot order that the arbiter may grant: its attempt has not begun and, in GUARDED, its check would not hold
it (Table 4-6). -/
def State.slotEligible (s : State) (k : SlotId) : Bool :=
  match s.order k with
  | none => false
  | some o => !o.begun && (s.mgmt.mode != .guarded || checkOrder (.slot k) o.frame s != .hold)

/-- The SEQUENCE candidate: the lowest-numbered eligible place (Table 4-6). -/
def State.slotCandidate (s : State) : Option SlotId := slotIds.find? s.slotEligible

/-- The Interlock checks this telegram in this mode (R92). -/
def State.checks (s : State) (f : Frame) : Bool := s.mgmt.mode == .guarded && isFullOrder f

/-- FORWARD is eligible with this head of the down queue (Table 4-6). -/
def State.forwardEligible (s : State) (f : Frame) : Bool := !s.checks f || s.placeForOrder

/-- The FORWARD candidate. -/
def State.forwardCandidate (s : State) : Option Frame :=
  match s.portA.down with
  | f :: _ => if s.forwardEligible f then some f else none
  | [] => none

/-- The bookkeeping of a grant to SEQUENCE or FORWARD (R90, R91): the burst count returns to 0; under ROTATING the marker
names the other source. -/
def noteGrant (toSequence : Bool) (s : State) : State :=
  let turn := if s.mgmt.config.rotating then toSequence else s.portB.turnForward
  { s with portB := { s.portB with burst := 0, turnForward := turn } }

/-- A grant to SCAN (R90, R156). -/
def grantScan (n : Nat) (rest : List Nat) (s : State) : State :=
  let s := s.setPollList rest
  let s := { s with portB := { s.portB with burst := min 2 (s.portB.burst + 1) } }
  transmit .b (Tx.fresh .poll (mkFrame n s.ownNode kindPoll 0#8 [])) s

/-- ORDER FORWARDED is written once for an order, in MONITOR and GUARDED, when its payload has the layout (R116, R117,
R121). -/
def writeForwarded (orig : Originator) (f : Frame) (logged : Bool) (s : State) : State :=
  if !logged && s.mgmt.mode != .transparent && isFullOrder f then logForwarded orig f s else s

/-- ORDER FORWARDED stands written for an order after an attempt in this mode. -/
def State.loggedAfter (s : State) (logged : Bool) : Bool := logged || s.mgmt.mode != .transparent

/-- Sends an attempt of a slot's order from its place. -/
def sendSlotOrder (k : SlotId) (o : SlotOrder) (t : Tx) (s : State) : State :=
  let s' := writeForwarded (.slot k) o.frame o.logged s
  let s' := s'.setOrder k (some { o with begun := true, logged := s.loggedAfter o.logged })
  transmit .b t s'

/-- A slot's order that its check rejects leaves its place (R115, R116), and an order that awaited the place is placed
(R136). The step order of a rejected order stays as it is (log entry 35). -/
def dropSlotOrder (k : SlotId) (o : SlotOrder) (reason run slot : Nat) (s : State) : State :=
  placeAwaiting k (logRejected o.frame reason run slot (s.setOrder k none))

/-- A grant to SEQUENCE (R92). -/
def grantSlot (k : SlotId) (s : State) : State :=
  match s.order k with
  | none => s
  | some o =>
    let s := noteGrant true s
    let t := Tx.fresh (.slot k) o.frame
    if s.checks o.frame then
      match checkOrder (.slot k) o.frame s with
      | .forward => sendSlotOrder k o t s
      | .reject reason run slot => dropSlotOrder k o reason run slot s
      | .hold => s
    else sendSlotOrder k o t s

/-- A control-unit order that its check rejects leaves the down queue, and a REJECT fills its held place (R92, R116). -/
def rejectDown (f : Frame) (reason run slot : Nat) (s : State) : State :=
  let s := s.setDown s.portA.down.tail
  let s := s.updLink .b Link.release
  let s := addAnswer (rejectFrame s f reason) false s
  logRejected f reason run slot s

/-- Sends an attempt of the head of the down queue. -/
def sendDown (t : Tx) (s : State) : State :=
  let s' := if frameKind t.frame = kindValveOrder then writeForwarded .control t.frame t.logged s else s
  transmit .b { t with logged := s.loggedAfter t.logged } s'

/-- A checked attempt of the head of the down queue, its answer-queue place held (R92). -/
def checkDown (t : Tx) (s : State) : State :=
  match checkOrder .control t.frame s with
  | .reject reason run slot => rejectDown t.frame reason run slot s
  | .forward => sendDown { t with placeHeld := true } s
  | .hold => s

/-- A grant to FORWARD (R92). -/
def grantForward (f : Frame) (s : State) : State :=
  let s := noteGrant false s
  let t := Tx.fresh .down f
  if s.checks f then checkDown t s else sendDown t s

/-- SEQUENCE comes before FORWARD when both are eligible (R91). -/
def State.sequenceFirst (s : State) : Bool := !s.mgmt.config.rotating || !s.portB.turnForward

/-- The choice between SEQUENCE and FORWARD (R91). -/
def grantOther (s : State) : State :=
  match s.slotCandidate, s.forwardCandidate with
  | some k, some f => if s.sequenceFirst then grantSlot k s else grantForward f s
  | some k, none => grantSlot k s
  | none, some f => grantForward f s
  | none, none => s

/-- The Port B arbiter (R90). -/
def grantB (s : State) : State :=
  if s.portB.link.tx.isSome then s else
  match s.scan.pollList with
  | n :: rest =>
    if s.portB.burst < 2 ∨ (s.slotCandidate = none ∧ s.forwardCandidate = none) then grantScan n rest s
    else grantOther s
  | [] => grantOther s

/-! ### Ends of transmissions -/

/-- The last byte of a telegram is out: the wait for the reply begins, and owed replies are sent (R79, R80). -/
def endTransmission (p : Port) (s : State) : State :=
  match (s.link p).tx with
  | some t =>
    if t.phase = .sending then s.updLink p (fun l => { l with tx := some { t with phase := .awaiting } }.flush) else s
  | none => s

/-- An attempt is refused (R80). -/
def refuseAttempt (p : Port) (t : Tx) (s : State) : State :=
  s.updLink p (fun l => { l with tx := some { t with phase := .refused, refusals := t.refusals + 1 } })

/-- The answer queue loses its head; the answer of a RESTART brings the warm restart (R87, R187). -/
def popAnswer (s : State) : State :=
  match s.portA.answers with
  | a :: rest => if a.restart then warmRestart s.lines.straps (s.setAnswers rest) else s.setAnswers rest
  | [] => s

/-- A telegram is delivered: it leaves its source (R80, R85 to R89, R93), and an order that awaited the place of a slot's
order is placed (R136). -/
def deliver (p : Port) (t : Tx) (s : State) : State :=
  let s := s.updLink p Link.release
  match t.source with
  | .answer => popAnswer s
  | .alert => s
  | .up => s.setUp s.portB.up.tail
  | .down =>
    let s := s.setDown s.portA.down.tail
    if isFullOrder t.frame then deliverOrder .control t.frame s else s
  | .slot k => placeAwaiting k (slotDelivered k (deliverOrder (.slot k) t.frame (s.setOrder k none)))
  | .poll => s

/-- A telegram is discarded after 16 refused attempts (R81, Table 4-4), and an order that awaited the place of a slot's
order is placed (R136). -/
def discard (p : Port) (t : Tx) (s : State) : State :=
  let s := raise condPortStall (s.updLink p Link.release)
  match t.source with
  | .answer => popAnswer s
  | .alert => s
  | .up => s.setUp s.portB.up.tail
  | .down => s.setDown s.portA.down.tail
  | .slot k => placeAwaiting k (loseOrder k (s.setOrder k none))
  | .poll => s

/-- A reply byte arrives (R80). It counts only while the port awaits it. -/
def takeReply (p : Port) (b : ReplyByte) (s : State) : State :=
  match (s.link p).tx with
  | some t =>
    if t.phase = .awaiting then
      match b with
      | .accept => settleInput (deliver p t s)
      | .wait => refuseAttempt p t s
      | .other => s
    else s
  | none => s

/-! ### Repeats -/

/-- The repeat of a slot's order in GUARDED, after a fresh check (R92). -/
def repeatSlotOrder (k : SlotId) (t : Tx) (s : State) : State :=
  match s.order k with
  | none => s
  | some o =>
    match checkOrder (.slot k) t.frame s with
    | .forward => sendSlotOrder k o t s
    | .reject reason run slot => dropSlotOrder k o reason run slot (s.updLink .b Link.release)
    | .hold => (s.setOrder k (some { o with begun := false })).updLink .b Link.release

/-- The repeat of a control-unit order in GUARDED: it takes a place first when it holds none (R92). -/
def repeatDownOrder (t : Tx) (s : State) : State :=
  if t.placeHeld || s.placeForOrder then checkDown t s
  else s.updLink .b (fun l => { l with tx := some { t with phase := .waitingPlace } })

/-- A repeat goes out on Port B as the mode that stands now requires (R92, R117). -/
def repeatOnB (t : Tx) (s : State) : State :=
  if s.checks t.frame then
    match t.source with
    | .down => repeatDownOrder t s
    | .slot k => repeatSlotOrder k t s
    | _ => transmit .b t s
  else transmit .b t s

/-- The repeat of a telegram is due: its attempt was refused, fewer than 16 times; or it waits for a place and the mode no
longer asks for one (R80, R81, R92; log entry 27). -/
def State.repeatDue (s : State) (t : Tx) : Bool :=
  match t.phase with
  | .refused => decide (t.refusals < 16)
  | .waitingPlace => !s.checks t.frame
  | _ => false

/-- A repeat (R80). -/
def repeatOn (p : Port) (s : State) : State :=
  match (s.link p).tx with
  | some t =>
    if s.repeatDue t then
      match p with
      | .a => transmit .a t s
      | .b => repeatOnB t s
    else s
  | none => s

/-- A waiting repeat takes a freed place, and its check is then made (R92). -/
def takePlace (s : State) : State :=
  match s.portB.link.tx with
  | some t =>
    if t.phase = .waitingPlace then
      if s.checks t.frame then (if s.placeForOrder then checkDown t s else s) else transmit .b t s
    else s
  | none => s

/-! ### Commands -/

/-- PORT_A_RECEIVE (R82). -/
def execPortAReceive (bytes : Frame) (s : State) : Host.Outcome State Fault Refusal :=
  live (receiveFrame .a bytes takeOnA) s

/-- PORT_B_RECEIVE (R83). -/
def execPortBReceive (bytes : Frame) (s : State) : Host.Outcome State Fault Refusal :=
  live (receiveFrame .b bytes takeOnB) s

/-- PORT_B_GRANT (R90). -/
def execPortBGrant (s : State) : Host.Outcome State Fault Refusal := live grantB s

/-- PORT_A_GRANT (R94). -/
def execPortAGrant (s : State) : Host.Outcome State Fault Refusal := live grantA s

/-- LINK_REPLY (R80). -/
def execLinkReply (p : Port) (b : ReplyByte) (s : State) : Host.Outcome State Fault Refusal := live (takeReply p b) s

/-- REPLY_TIMEOUT (R80): without a reply in its 10 ms the attempt is refused. -/
def execReplyTimeout (p : Port) (s : State) : Host.Outcome State Fault Refusal := live (takeReply p .wait) s

/-- REPEAT (R80). -/
def execRepeatTelegram (p : Port) (s : State) : Host.Outcome State Fault Refusal := live (repeatOn p) s

/-- REPEAT_PLACE_TAKEN (R92). -/
def execRepeatPlaceTaken (s : State) : Host.Outcome State Fault Refusal := live takePlace s

/-- The 16th refusal ends a telegram (R81). -/
def discardDue (p : Port) (s : State) : State :=
  match (s.link p).tx with
  | some t => if t.phase = .refused ∧ 16 ≤ t.refusals then settleInput (discard p t s) else s
  | none => s

/-- TELEGRAM_DISCARD (R81). -/
def execTelegramDiscard (p : Port) (s : State) : Host.Outcome State Fault Refusal := live (discardDue p) s

/-- SLOT_ORDER_PLACED (R136). -/
def execSlotOrderPlaced (k : Nat) (s : State) : Host.Outcome State Fault Refusal :=
  ifWf (slotWf k) (live (fun s => (slotOfNat k).elim s (fun k => placeAwaiting k s)) s)

/-- FRAME_START (R79). -/
def execFrameStart (p : Port) (s : State) : Host.Outcome State Fault Refusal := live (startFrame p) s

/-- TRANSMISSION_END (R80). -/
def execTransmissionEnd (p : Port) (s : State) : Host.Outcome State Fault Refusal := live (endTransmission p) s

end Sys2Proof.Machine
end

