-- ==== Sys2Proof/Machine/SecondEvent.lean ====
section
/-! DEFINITION. The second event (R21, R25, R54, R107, R137, R153) and the expiries that are rows of their own. SECOND_EVENT
takes the share of every countdown, expiries included. An expiry row takes the share of one countdown by itself, and only
when that countdown is about to reach 0; otherwise it changes nothing (log entry 4). -/

namespace Sys2Proof.Machine

/-- The part of a block in a second event (log entry 3). -/
def secondPart (s : State) (w : SecondWork) : State :=
  match w with
  | .tracker => tickTracker s
  | .holdOff => tickHoldOff s
  | .travel => tickTravel s
  | .scan => tickScan s
  | .slots => tickSlots s

/-- A second event, its blocks in the order given; the answer of a commit that it applied is made when a place is free
(R15, R87). -/
def secondEvent (order : List SecondWork) (s : State) : State := answerCommit (order.foldl secondPart s)

/-- A LIVE record that its next ageing makes STALE (R25). -/
def FlowRec.expires (f : FlowRec) : Bool := f.state == .live && decide (f.age ≤ 1)

/-- The expiry of one flow record (R25). -/
def expireFlow (p : Nat) (s : State) : State :=
  if s.mgmt.mode = .transparent then s else s.updFlow p (fun f => if f.expires then f.aged else f)

/-- What the advance of a run reads when its turn comes at the second event now due: the flow records aged (R21, R25) and
the runs ahead of it advanced (R38). -/
def State.atTurnOf (s : State) (id : Nat) : State :=
  ((runsAhead s.tracker.runs id).map Run.id).foldl advanceRun (ageFlows s)

/-- The advance now due finds a MOVING or HALTED run standing and brings its halted seconds to the stall limit (R43). -/
def State.stallDue (s : State) (r : Run) : Bool :=
  (r.state == .moving || r.state == .halted) && (moveAndHalt (s.atTurnOf r.id) r).run.state == .stalled

/-- The stall of one run, a run event of its own (R43, R48). -/
def stallRun (id : Nat) (s : State) : State :=
  match s.run id with
  | none => s
  | some r =>
    if s.mgmt.mode ≠ .transparent ∧ s.stallDue r then
      endRunEvent { r with halted := min 65535 (r.halted + 1), state := .stalled } anStall s
    else s

/-- The expiry of the hold-off of one detector (R54). -/
def expireHoldOff (p : Nat) (s : State) : State :=
  if s.mgmt.mode = .transparent then s
  else s.updDetector p (fun d => if d.holdOff = 1 then { d with holdOff := 0 } else d)

/-- The valve's expected order has one second left (R107). -/
def State.mismatchDue (s : State) (p : Nat) : Bool :=
  ((s.valve p).bind ValveRec.expected).elim false (fun e => e.remaining == 1)

/-- The expiry of one expected order (R107). -/
def expireValve (p : Nat) (s : State) : State :=
  if s.mgmt.mode ≠ .transparent ∧ s.mismatchDue p then tickValve s p else s

/-- The expiry of the scan interval (R153, R154). -/
def expireScan (s : State) : State :=
  if s.mgmt.mode ≠ .transparent ∧ s.scan.countdown = 1 then roundAndReload s else s

/-- A slot in RUNNING stands at a step of this kind, its countdown about to reach 0. -/
def State.stepDue (s : State) (k : SlotId) (dwell : Bool) : Bool :=
  s.mgmt.mode == .guarded && (s.slot k).state == .running && (s.slot k).countdown == 1 &&
    (s.currentStep k).elim false (fun r => (r.action == .dwell) == dwell)

/-- A DWELL step ends (R137). -/
def expireDwell (k : SlotId) (s : State) : State :=
  if s.stepDue k true then countSlotDown k (completeStep k) s else s

/-- A waiting step times out (R137, R138). The approach test of that second event comes first, so a step that it would
complete does not time out. -/
def expireStep (k : SlotId) (s : State) : State :=
  if s.stepDue k false && (approachAtTick k s).isNone then countSlotDown k (timeoutStep k) s else s

/-- The spacing of a slot ends (R144). -/
def expireSpacing (k : SlotId) (s : State) : State :=
  if s.mgmt.mode = .guarded ∧ (s.slot k).state = .spacing ∧ (s.slot k).countdown = 1 then
    countSlotDown k (spacingEnds k) s
  else s

/-- An event of the slot with this number. -/
def onSlot (n : Nat) (f : SlotId → State → State) (s : State) : State := (slotOfNat n).elim s (fun k => f k s)

/-! ### Commands -/

/-- SECOND_EVENT (R21). -/
def execSecondEvent (order : List SecondWork) (s : State) : Host.Outcome State Fault Refusal :=
  ifWf (SecondWork.wf order) (live (secondEvent order) s)

/-- FLOW_STALE (R25). -/
def execFlowStale (p : Nat) (s : State) : Host.Outcome State Fault Refusal := ifWf (pointWf p) (live (expireFlow p) s)

/-- STALL (R43). -/
def execStall (id : Nat) (s : State) : Host.Outcome State Fault Refusal := ifWf (runWf id) (live (stallRun id) s)

/-- HOLD_OFF_EXPIRY (R54). -/
def execHoldOffExpiry (p : Nat) (s : State) : Host.Outcome State Fault Refusal :=
  ifWf (pointWf p) (live (expireHoldOff p) s)

/-- VALVE_MISMATCH (R107). -/
def execValveMismatch (p : Nat) (s : State) : Host.Outcome State Fault Refusal :=
  ifWf (pointWf p) (live (expireValve p) s)

/-- ROUND_START (R154). -/
def execRoundStart (s : State) : Host.Outcome State Fault Refusal := live expireScan s

/-- DWELL_END (R137). -/
def execDwellEnd (k : Nat) (s : State) : Host.Outcome State Fault Refusal :=
  ifWf (slotWf k) (live (onSlot k expireDwell) s)

/-- STEP_TIMEOUT (R138). -/
def execStepTimeout (k : Nat) (s : State) : Host.Outcome State Fault Refusal :=
  ifWf (slotWf k) (live (onSlot k expireStep) s)

/-- SPACING_END (R144). -/
def execSpacingEnd (k : Nat) (s : State) : Host.Outcome State Fault Refusal :=
  ifWf (slotWf k) (live (onSlot k expireSpacing) s)

/-- COMMIT_ANSWER (R87). -/
def execCommitAnswer (s : State) : Host.Outcome State Fault Refusal := live answerCommit s

end Sys2Proof.Machine
end

