-- ==== Sys2Proof/Machine/Management.lean ====
section
/-! DEFINITION. The requests of the Management Unit itself: status, mode, configuration, clock, conditions, link clear and
restart (R95, R178 to R180, R182, R184, R187). -/

namespace Sys2Proof.Machine

/-- The row of a request: it serves the request in service when that is this one (R176). -/
def request (code : Nat) (lengthOk : List Byte → Bool) (body : List Byte → State → Served) (s : State) :
    Host.Outcome State Fault Refusal := live (serveRequest code lengthOk body) s

/-! ### READ STATUS (R178) -/

/-- The active Line Map is in use (R9). -/
def State.mapInUse (s : State) : Bool := !s.map.isEmpty

/-- The active Class Table is in use (R9). -/
def State.classesInUse (s : State) : Bool := s.tables.active.classes.any Option.isSome

/-- The data of READ STATUS (Table 10-5). -/
def statusData (s : State) : List Byte :=
  [byte s.mgmt.mode.code] ++ put16 (conditionWord s.mgmt.conditions).toNat ++
  [flagByte s.mapInUse, flagByte s.classesInUse, byte s.tracker.runs.length] ++
  put32 s.tracker.inserted.toNat ++ put32 s.tracker.received.toNat ++ put32 s.tracker.exited.toNat ++
  put32 s.tracker.abandoned.toNat ++ put16 s.portA.link.checkErrors ++ put16 s.portB.link.checkErrors ++
  slotIds.map (fun k => byte (s.slot k).state.code)

/-- READ STATUS. -/
def serveReadStatus (_args : List Byte) (s : State) : Served := served (statusData s) s

/-! ### SET MODE (R184) -/

/-- SET MODE. -/
def serveSetMode (args : List Byte) (s : State) : Served :=
  match Mode.ofCode (byteAt args 0) with
  | none => refuse stOutOfRange s
  | some m =>
    if m = s.mgmt.mode then served [byte m.code, byte m.code] s
    else if m ≠ .transparent ∧ (s.mapInUse = false ∨ s.classesInUse = false) then refuse stWrongMode s
    else served [byte s.mgmt.mode.code, byte m.code] (changeMode m s)

/-! ### SET CONFIG (R179) -/

/-- A configuration item takes a value, or nothing when the item or the value is out of range (Table 9-3). -/
def Config.set (c : Config) (item value : Nat) : Option Config :=
  match item with
  | 1 => if value ≤ 126 then some { c with managerNode := value } else none
  | 2 => if value ≤ 126 then some { c with alertNode := value } else none
  | 3 => if value ≤ 8191 then some { c with alertEnables := BitVec.ofNat 13 value } else none
  | 4 => if value ≤ 2047 then some { c with alarmMask := BitVec.ofNat 11 value } else none
  | 5 => (flagOfCode value).map (fun b => { c with downDrop := b })
  | 6 => (flagOfCode value).map (fun b => { c with upDrop := b })
  | 7 => (flagOfCode value).map (fun b => { c with rotating := b })
  | 8 => if 5 ≤ value ∧ value ≤ 600 then some { c with scanInterval := value } else none
  | 9 => (LogMode.ofCode value).map (fun m => { c with logMode := m })
  | 10 => (flagOfCode value).map (fun b => { c with freezeOnAlarm := b })
  | _ => none

/-- The configuration is replaced; a new log mode empties the log (R165). -/
def State.setConfig (s : State) (c : Config) : State :=
  { s with mgmt := { s.mgmt with config := c }
           log := if c.logMode = s.mgmt.config.logMode then s.log else s.log.emptied }

/-- SET CONFIG. -/
def serveSetConfig (args : List Byte) (s : State) : Served :=
  match s.mgmt.config.set (byteAt args 0) (be16 args 1) with
  | none => refuse stOutOfRange s
  | some c => served (byte (byteAt args 0) :: put16 (be16 args 1)) (s.setConfig c)

/-! ### SET TIME (R180), ACK CONDITIONS (R182) -/

/-- The section clock takes a value. -/
def State.setClock (s : State) (t : Nat) : State := { s with tracker := { s.tracker with clock := BitVec.ofNat 32 t } }

/-- SET TIME. -/
def serveSetTime (args : List Byte) (s : State) : Served := served (put32 (be32 args 0)) (s.setClock (be32 args 0))

/-- Clears the flags of a set. -/
def ackConditions (set : Nat) (s : State) : State :=
  { s with mgmt := { s.mgmt with conditions := s.mgmt.conditions &&& ~~~(BitVec.ofNat 13 set) } }

/-- ACK CONDITIONS. -/
def serveAckConditions (args : List Byte) (s : State) : Served :=
  if 8191 < be16 args 0 then refuse stOutOfRange s
  else
    let s' := ackConditions (be16 args 0) s
    served (put16 (conditionWord s'.mgmt.conditions).toNat) s'

/-! ### LINK CLEAR (R95), RESTART (R187) -/

/-- LINK CLEAR makes the link clear and then its answer, with or without a free place before (R176). With an argument it
is answered BAD REQUEST like any request of a wrong length, when a place is free. -/
def serveLinkClear (s : State) : State :=
  match s.mgmt.service with
  | some ⟨r, .unserved⟩ =>
    if r.isLinkClear then answerAndLeave r stOk [] (clearLinks s)
    else serveRequest 6 (hasLength 0) (fun _ s => refuse stBadRequest s) s
  | _ => s

/-- RESTART makes its answer and stays in service until that answer leaves the queue. -/
def serveRestart (s : State) : State :=
  match s.mgmt.service with
  | some ⟨r, .unserved⟩ =>
    if r.code = some 7 ∧ 0 < s.freePlaces then
      if r.args = [] then
        (answerRequest r stOk [] true s).setInput (some ⟨r, .restartAnswered⟩) s.mgmt.waiting
      else answerAndLeave r stBadRequest [] s
    else s
  | _ => s

/-! ### Commands -/

/-- READ_STATUS (R178). -/
def execReadStatus (s : State) : Host.Outcome State Fault Refusal := request 1 (hasLength 0) serveReadStatus s

/-- SET_MODE (R184). -/
def execSetMode (s : State) : Host.Outcome State Fault Refusal := request 2 (hasLength 1) serveSetMode s

/-- SET_CONFIG (R179). -/
def execSetConfig (s : State) : Host.Outcome State Fault Refusal := request 3 (hasLength 3) serveSetConfig s

/-- SET_TIME (R180). -/
def execSetTime (s : State) : Host.Outcome State Fault Refusal := request 4 (hasLength 4) serveSetTime s

/-- ACK_CONDITIONS (R182). -/
def execAckConditions (s : State) : Host.Outcome State Fault Refusal := request 5 (hasLength 2) serveAckConditions s

/-- LINK_CLEAR (R95). -/
def execLinkClear (s : State) : Host.Outcome State Fault Refusal := live serveLinkClear s

/-- RESTART (R187). -/
def execRestart (s : State) : Host.Outcome State Fault Refusal := live serveRestart s

end Sys2Proof.Machine
end

