-- ==== Sys2Proof/Machine/TableRequests.lean ====
section
/-! DEFINITION. The requests that load, commit and read the tables (R10 to R14, R124, R168). -/

namespace Sys2Proof.Machine

/-- Replaces the shadow copies. -/
def State.setShadow (s : State) (t : Tables) : State := { s with tables := { s.tables with shadow := t } }

/-- Replaces the watch list. -/
def State.setWatch (s : State) (w : List WatchEntry) : State := { s with tables := { s.tables with watch := w } }

/-- A load into the shadow of a table (R10, R11, R124): PENDING first, then the index and the fields, then the record is
stored. -/
def loadShadow (t : TableId) (store : Tables → Option Tables) (s : State) : Served :=
  if s.tables.pendingCommit = some t then refuse stPending s
  else
    match store s.tables.shadow with
    | none => refuse stOutOfRange s
    | some sh => served [] (s.setShadow sh)

/-! ### LOAD POINT (R10) -/

/-- The length of LOAD POINT fits the kind in its second byte; an unknown kind only asks for 8 bytes. -/
def pointLengthOk (args : List Byte) : Bool :=
  decide (8 ≤ args.length) &&
  match pointArgLength (byteAt args 1) with
  | some n => args.length == n
  | none => true

/-- Stores a point: an index below the point count replaces, an index equal to it appends. -/
def storePoint (args : List Byte) (t : Tables) : Option Tables :=
  let i := byteAt args 0
  if 63 < i ∨ t.lineMap.length < i then none
  else
    match parsePoint (args.drop 1) with
    | none => none
    | some p =>
      some { t with lineMap := if i < t.lineMap.length then t.lineMap.set i p else t.lineMap ++ [p] }

/-- LOAD POINT. -/
def serveLoadPoint (args : List Byte) (s : State) : Served := loadShadow .lineMap (storePoint args) s

/-! ### LOAD CLASS (R11), LOAD PROGRAM and LOAD STEP (R124) -/

/-- Stores a class record. -/
def storeClass (args : List Byte) (t : Tables) : Option Tables :=
  if 7 < byteAt args 0 then none
  else (parseClass args).map (fun c => { t with classes := t.classes.set (byteAt args 0) (some c) })

/-- LOAD CLASS. -/
def serveLoadClass (args : List Byte) (s : State) : Served := loadShadow .classes (storeClass args) s

/-- Stores a program record. -/
def storeProgram (args : List Byte) (t : Tables) : Option Tables :=
  if 15 < byteAt args 0 then none
  else (parseProgram args).map (fun p =>
    { t with seq := { t.seq with programs := t.seq.programs.set (byteAt args 0) (some p) } })

/-- LOAD PROGRAM. -/
def serveLoadProgram (args : List Byte) (s : State) : Served := loadShadow .sequence (storeProgram args) s

/-- Stores a step record. -/
def storeStep (args : List Byte) (t : Tables) : Option Tables :=
  if 127 < byteAt args 0 then none
  else (parseStep args).map (fun r =>
    { t with seq := { t.seq with steps := t.seq.steps.set (byteAt args 0) (some r) } })

/-- LOAD STEP. -/
def serveLoadStep (args : List Byte) (s : State) : Served := loadShadow .sequence (storeStep args) s

/-! ### CLEAR SHADOW (R12) -/

/-- Empties one table of a copy. -/
def Tables.cleared (t : TableId) (c : Tables) : Tables :=
  match t with
  | .lineMap => { c with lineMap := Tables.empty.lineMap }
  | .classes => { c with classes := Tables.empty.classes }
  | .sequence => { c with seq := Tables.empty.seq }

/-- CLEAR SHADOW. -/
def serveClearShadow (args : List Byte) (s : State) : Served :=
  match TableId.ofCode (byteAt args 0) with
  | none => refuse stOutOfRange s
  | some t =>
    if s.tables.pendingCommit = some t then refuse stPending s
    else served [] (s.setShadow (s.tables.shadow.cleared t))

/-! ### COMMIT (R14) -/

/-- Some slot is not IDLE. -/
def State.slotActive (s : State) : Bool := slotIds.any (fun k => (s.slot k).state != .idle)

/-- The status with which a COMMIT of a table is refused, or nothing when it is taken. -/
def State.commitRefusal (s : State) (t : TableId) : Option Nat :=
  if s.tables.pendingCommit = some t then some stPending
  else
    match t with
    | .lineMap =>
      if s.tracker.runs ≠ [] then some stRunsActive else if s.slotActive then some stSlotActive else none
    | .classes => none
    | .sequence => if s.slotActive then some stSlotActive else none

/-- A COMMIT is taken: it becomes pending and stays in service without an answer. -/
def takeCommit (r : Request) (t : TableId) (s : State) : State :=
  let s := { s with tables := { s.tables with pendingCommit := some t } }
  s.setInput (some ⟨r, .commitTaken⟩) s.mgmt.waiting

/-- The examination of a COMMIT of the right length. -/
def examineCommit (r : Request) (s : State) : State :=
  match TableId.ofCode (byteAt r.args 0) with
  | none => answerAndLeave r stOutOfRange [] s
  | some t =>
    match s.commitRefusal t with
    | some status => answerAndLeave r status [] s
    | none => takeCommit r t s

/-- COMMIT in service (R14, R176). -/
def serveCommit (s : State) : State :=
  match s.mgmt.service with
  | some ⟨r, .unserved⟩ =>
    if r.code = some 15 ∧ 0 < s.freePlaces then
      if hasLength 1 r.args then examineCommit r s else answerAndLeave r stBadRequest [] s
    else s
  | _ => s

/-! ### READ TABLE RECORD (R13, R168) -/

/-- The highest record index under a table code; no code above 4. -/
def recordLimit : Nat → Option Nat
  | 0 => some 63
  | 1 => some 7
  | 2 => some 15
  | 3 => some 7
  | 4 => some 127
  | _ => none

/-- The copy that a copy code names: ACTIVE 0, SHADOW 1. -/
def State.copy (s : State) (shadow : Bool) : Tables := if shadow then s.tables.shadow else s.tables.active

/-- The counts that READ TABLE RECORD carries: those of COMMIT, of the copy read (Table 10-5, R15; log entry 11), and for the
watch list the number of enabled entries and 0 (R168). -/
def readCounts (code : Nat) (s : State) (shadow : Bool) : List Byte :=
  match code with
  | 0 => copyCounts .lineMap (s.copy shadow)
  | 1 => copyCounts .classes (s.copy shadow)
  | 3 => [byte (s.tables.watch.filter WatchEntry.enabled).length, 0#8]
  | _ => copyCounts .sequence (s.copy shadow)

/-- The record in its load layout, without its index byte; nothing where there is no such record. -/
def readRecord (code i : Nat) (s : State) (shadow : Bool) : Option (List Byte) :=
  match code with
  | 0 => ((s.copy shadow).lineMap[i]?).map encodePoint
  | 1 => ((s.copy shadow).classes.getD i none).map encodeClass
  | 2 => ((s.copy shadow).seq.programs.getD i none).map encodeProgram
  | 3 => (s.tables.watch[i]?).map encodeWatch
  | _ => ((s.copy shadow).seq.steps.getD i none).map encodeStep

/-- READ TABLE RECORD. -/
def serveReadTableRecord (args : List Byte) (s : State) : Served :=
  let code := byteAt args 0
  let i := byteAt args 1
  match recordLimit code, flagOfCode (byteAt args 2) with
  | some limit, some shadow =>
    if limit < i then refuse stOutOfRange s
    else
      match readRecord code i s shadow with
      | some record => served ([byte code, byte i, flagByte shadow] ++ readCounts code s shadow ++ record) s
      | none => refuse stNotFound s
  | _, _ => refuse stOutOfRange s

/-! ### LOAD WATCH (R168) -/

/-- LOAD WATCH. -/
def serveLoadWatch (args : List Byte) (s : State) : Served :=
  if 7 < byteAt args 0 then refuse stOutOfRange s
  else
    match parseWatch args with
    | none => refuse stOutOfRange s
    | some w => served [] (s.setWatch (s.tables.watch.set (byteAt args 0) w))

/-! ### Commands -/

/-- LOAD_POINT (R10). -/
def execLoadPoint (s : State) : Host.Outcome State Fault Refusal := request 10 pointLengthOk serveLoadPoint s

/-- LOAD_CLASS (R11). -/
def execLoadClass (s : State) : Host.Outcome State Fault Refusal := request 11 (hasLength 10) serveLoadClass s

/-- LOAD_PROGRAM (R124). -/
def execLoadProgram (s : State) : Host.Outcome State Fault Refusal := request 12 (hasLength 5) serveLoadProgram s

/-- LOAD_STEP (R124). -/
def execLoadStep (s : State) : Host.Outcome State Fault Refusal := request 13 (hasLength 8) serveLoadStep s

/-- CLEAR_SHADOW (R12). -/
def execClearShadow (s : State) : Host.Outcome State Fault Refusal := request 14 (hasLength 1) serveClearShadow s

/-- COMMIT (R14). -/
def execCommit (s : State) : Host.Outcome State Fault Refusal := live serveCommit s

/-- READ_TABLE_RECORD (R13). -/
def execReadTableRecord (s : State) : Host.Outcome State Fault Refusal := request 16 (hasLength 3) serveReadTableRecord s

/-- LOAD_WATCH (R168). -/
def execLoadWatch (s : State) : Host.Outcome State Fault Refusal := request 45 (hasLength 8) serveLoadWatch s

end Sys2Proof.Machine
end

