-- ==== Sys2Proof/Machine/RunRequests.lean ====
section
/-! DEFINITION. The run requests (R32 to R35). -/

namespace Sys2Proof.Machine

/-! ### READ RUN (R35) -/

/-- The origin of a run as READ RUN carries it: the slot, or 4 for ADOPTED (Table 10-5). -/
def Origin.code : Origin → Nat
  | .launched k => k.val
  | .adopted => 4

/-- The data of READ RUN (Table 10-5): the place and every field of the run, with the arrival estimate of R46. -/
def runData (s : State) (place : Nat) (r : Run) : List Byte :=
  [byte place, byte r.id, byte r.cls, byte r.state.code] ++ put32 r.position ++ put16 r.speed ++ put16 r.slip ++
  put32 r.band ++ put32 r.flowDist ++ [byte r.lastFix, optByte r.nextDet, byte r.misses] ++ put16 r.halted ++
  [optByte r.zoneValve] ++ put16 r.current.toNat ++ put16 r.accrued.toNat ++ put16 r.alarmed.toNat ++
  [byte r.origin.code, byte (slotNumber r.bound)] ++ put32 r.insertedAt.toNat ++ put32 (arrivalEstimate s.map r)

/-- The place of a run in the list (R30). -/
def placeOf (rs : List Run) (id : Nat) : Nat := rs.findIdx (fun r => r.id == id)

/-- READ RUN. -/
def serveReadRun (args : List Byte) (s : State) : Served :=
  let n := byteAt args 1
  match byteAt args 0 with
  | 0 =>
    if 15 < n then refuse stOutOfRange s
    else
      match s.tracker.runs[n]? with
      | some r => served (runData s n r) s
      | none => refuse stNotFound s
  | 1 =>
    match s.run n with
    | some r => served (runData s (placeOf s.tracker.runs n) r) s
    | none => refuse stNotFound s
  | _ => refuse stOutOfRange s

/-! ### ADOPT RUN (R32), ABANDON RUN (R33) -/

/-- The point is a TRAP or DETECTOR point of the active map. -/
def State.adoptionPoint (s : State) (p : Nat) : Bool := (s.map[p]?).elim false (fun x => x.isTrap || x.isDetector)

/-- The run is adopted. -/
def adoptRun (c p : Nat) (s : State) : State :=
  offer .runAdopted s.nextRunId p 255 c (enterRun (entryRun s s.nextRunId c p .adopted none) s)

/-- ADOPT RUN. -/
def serveAdoptRun (args : List Byte) (s : State) : Served :=
  let c := byteAt args 0
  let p := byteAt args 1
  if s.mgmt.mode = .transparent then refuse stWrongMode s
  else if 7 < c ∨ 63 < p then refuse stOutOfRange s
  else if (s.classAt c).isNone then refuse stNotFound s
  else if s.adoptionPoint p = false then refuse stNotFound s
  else if s.hasRoom = false then refuse stTableFull s
  else
    let s' := adoptRun c p s
    served [byte s.nextRunId, byte (placeOf s'.tracker.runs s.nextRunId)] s'

/-- ABANDON RUN. R33 refuses id 0 OUT OF RANGE and also answers every ABANDON RUN in TRANSPARENT with NOT FOUND: that id 0 is OUT OF
RANGE there too is the model's choice (log entry 42). -/
def serveAbandonRun (args : List Byte) (s : State) : Served :=
  if byteAt args 0 = 0 then refuse stOutOfRange s
  else
    match s.run (byteAt args 0) with
    | none => refuse stNotFound s
    | some r => served [] (removeRun .abandoned r r.lastFix 0 s)

/-! ### REPOSITION RUN (R34) -/

/-- The detector lies above the leader or below the follower. -/
def State.orderViolation (s : State) (id pd : Nat) : Bool :=
  (leaderPos s.tracker.runs id).elim false (fun l => decide (l < pd)) ||
  (followerPos s.tracker.runs id).elim false (fun f => decide (pd < f))

/-- The run is set at the detector. -/
def repositionRun (r : Run) (p : Nat) (s : State) : State :=
  offer .runRepositioned r.id p (slotNumber r.bound) r.lastFix
    (s.updRun r.id (fun r => r.repositioned s.map (s.classOf r.cls) p))

/-- REPOSITION RUN. -/
def serveRepositionRun (args : List Byte) (s : State) : Served :=
  let id := byteAt args 0
  let p := byteAt args 1
  if id = 0 ∨ 63 < p then refuse stOutOfRange s
  else
    match s.run id with
    | none => refuse stNotFound s
    | some r =>
      if (s.map[p]?).elim false Point.isDetector = false then refuse stNotFound s
      else if s.orderViolation id (chainMm s.map p) then refuse stOrderViolation s
      else served [] (repositionRun r p s)

/-! ### Commands -/

/-- READ_RUN (R35). -/
def execReadRun (s : State) : Host.Outcome State Fault Refusal := request 20 (hasLength 2) serveReadRun s

/-- ADOPT_RUN (R32). -/
def execAdoptRun (s : State) : Host.Outcome State Fault Refusal := request 21 (hasLength 2) serveAdoptRun s

/-- ABANDON_RUN (R33). -/
def execAbandonRun (s : State) : Host.Outcome State Fault Refusal := request 22 (hasLength 1) serveAbandonRun s

/-- REPOSITION_RUN (R34). -/
def execRepositionRun (s : State) : Host.Outcome State Fault Refusal := request 23 (hasLength 2) serveRepositionRun s

end Sys2Proof.Machine
end

