-- ==== Sys2Proof/Machine/SlotRequests.lean ====
section
/-! DEFINITION. The slot requests (R128 to R134). -/

namespace Sys2Proof.Machine

/-! ### ARM (R129) -/

/-- The train parameters of an ARM. -/
structure ArmArgs where
  slot : SlotId
  program : Nat
  cls : Nat
  mode : TrainMode
  base : Nat
  spacing : Nat
  autoRepeat : Bool
deriving DecidableEq, Repr

/-- Train parameters in the ranges of Table 6-5. -/
def trainOk (cls base spacing : Nat) : Bool :=
  decide (cls ≤ 7) && decide (1 ≤ base) && decide (base ≤ 16) && decide (spacing ≤ 7200)

/-- The arguments of ARM, or nothing when one lies outside its range. -/
def parseArm (args : List Byte) : Option ArmArgs :=
  match slotOfNat (byteAt args 0), TrainMode.ofCode (byteAt args 3), flagOfCode (byteAt args 7) with
  | some k, some m, some auto =>
    if byteAt args 1 ≤ 15 ∧ trainOk (byteAt args 2) (byteAt args 4) (be16 args 5) then
      some { slot := k, program := byteAt args 1, cls := byteAt args 2, mode := m, base := byteAt args 4,
             spacing := be16 args 5, autoRepeat := auto }
    else none
  | _, _, _ => none

/-- The slot is armed with these parameters, its program's valves reserved. -/
def armSlot (a : ArmArgs) (ps : List Nat) (s : State) : State :=
  (reserveValves a.slot ps s).updSlot a.slot (fun r =>
    { Slot.initial with
      state := .armed, program := some a.program, cls := a.cls, mode := a.mode, base := a.base, count := a.base,
      spacing := a.spacing, autoRepeat := a.autoRepeat, reserved := ps, cause := r.cause })

/-- ARM. -/
def serveArm (args : List Byte) (s : State) : Served :=
  if s.mgmt.mode ≠ .guarded then refuse stWrongMode s
  else
    match parseArm args with
    | none => refuse stOutOfRange s
    | some a =>
      if (s.slot a.slot).state ≠ .idle then refuse stWrongState s
      else
        match s.programAt a.program with
        | none => refuse stNotFound s
        | some p =>
          if (s.classAt a.cls).isNone then refuse stNotFound s
          else
            let ps := programValves s.tables.active.seq p
            if s.unreserved ps then served [] (armSlot a ps s) else refuse stConflict s

/-! ### The other slot requests -/

/-- A request to a slot (R128): its slot number, then the states that take it, then its effect. -/
def slotRequest (takes : SlotState → Bool) (body : SlotId → State → Served) (args : List Byte) (s : State) : Served :=
  match slotOfNat (byteAt args 0) with
  | none => refuse stOutOfRange s
  | some k => if takes (s.slot k).state then body k s else refuse stWrongState s

/-- ARMED and WAIT START take START (R130). -/
def SlotState.takesStart : SlotState → Bool
  | .armed => true
  | .waitStart => true
  | _ => false

/-- RUNNING, SPACING and WAIT START take END (R131). -/
def SlotState.takesEnd : SlotState → Bool
  | .running => true
  | .spacing => true
  | .waitStart => true
  | _ => false

/-- The slot enters RUNNING, in PERMISSIVE with the permit set, at its program's first step (R130). -/
def startSlot (k : SlotId) (s : State) : State :=
  startStep k (s.firstStepOf k)
    (s.updSlot k (fun r => { r with state := .running, permit := r.permit || r.mode == .permissive }))

/-- START. -/
def serveStart (args : List Byte) (s : State) : Served :=
  slotRequest SlotState.takesStart (fun k s => served [] (startSlot k s)) args s

/-- The current step is started again (R130, R133). -/
def restartStep (keep : Bool) (k : SlotId) (s : State) : State :=
  (s.slot k).step.elim s (fun i => runSteps stepFuel k i keep (s.updSlot k (fun r => { r with state := .running })))

/-- RETRY. -/
def serveRetry (args : List Byte) (s : State) : Served :=
  slotRequest (· == .failed) (fun k s => served [] (restartStep false k s)) args s

/-- Every valve the slot reserves is under REMOTE control (R133). -/
def State.allRemote (s : State) (k : SlotId) : Bool :=
  (s.slot k).reserved.all (fun p => (s.valve p).elim true (fun v => v.location == .remote))

/-- RESUME. -/
def serveResume (args : List Byte) (s : State) : Served :=
  slotRequest (· == .observe)
    (fun k s => if s.allRemote k then served [] (restartStep true k s) else refuse stLocalActive s) args s

/-- SET PERMIT. -/
def serveSetPermit (args : List Byte) (s : State) : Served :=
  match slotOfNat (byteAt args 0), flagOfCode (byteAt args 1) with
  | some k, some b => served [] (s.updSlot k (fun r => { r with permit := b }))
  | _, _ => refuse stOutOfRange s

/-- The effect of END (R131). -/
def requestEnd (k : SlotId) (s : State) : State :=
  if (s.slot k).state = .waitStart then terminateNow k .endRequest s
  else s.updSlot k (fun r => { r with endRequested := true })

/-- END. -/
def serveEnd (args : List Byte) (s : State) : Served :=
  slotRequest SlotState.takesEnd (fun k s => served [] (requestEnd k s)) args s

/-- ABORT. -/
def serveAbort (args : List Byte) (s : State) : Served :=
  slotRequest (· != .idle) (fun k s => served [] (terminateNow k .abort s)) args s

/-! ### LOAD CHAIN (R134) -/

/-- The chain that LOAD CHAIN names, or nothing when an argument lies outside its range. -/
def parseChain (args : List Byte) : Option (Option Chain) :=
  match flagOfCode (byteAt args 1) with
  | none => none
  | some false => some none
  | some true =>
    match TrainMode.ofCode (byteAt args 3) with
    | none => none
    | some m =>
      if trainOk (byteAt args 2) (byteAt args 4) (be16 args 5) then
        some (some { cls := byteAt args 2, mode := m, base := byteAt args 4, spacing := be16 args 5 })
      else none

/-- LOAD CHAIN. -/
def serveLoadChain (args : List Byte) (s : State) : Served :=
  match slotOfNat (byteAt args 0), parseChain args with
  | some k, some chain =>
    if (s.slot k).state = .idle then refuse stWrongState s
    else if chain.elim false (fun c => (s.classAt c.cls).isNone) then refuse stNotFound s
    else served [] (s.updSlot k (fun r => { r with chain := chain }))
  | _, _ => refuse stOutOfRange s

/-! ### READ SLOT (R134) -/

/-- The chain fields of READ SLOT; those of an absent chain record are 0 (R191). -/
def chainData : Option Chain → List Byte
  | some c => [1#8, byte c.cls, byte c.mode.code, byte c.base] ++ put16 c.spacing
  | none => [0#8, 0#8, 0#8, 0#8] ++ put16 0

/-- The program kind and trap point of READ SLOT: 0 without a program (R191), free values for a program that is no longer
defined (log entry 12). -/
def programData (s : State) (k : SlotId) : List Byte :=
  match (s.slot k).program with
  | none => [0#8, 0#8]
  | some n =>
    match s.programAt n with
    | some p => [byte p.kind.code, byte p.trap]
    | none => [Config.freeByte s.fresh, Config.freeByte (s.fresh + 1)]

/-- The two free values of READ SLOT are used up. -/
def State.usedFree (s : State) : State := { s with fresh := s.fresh + 2 }

/-- The data of READ SLOT (Table 10-5). -/
def slotData (s : State) (k : SlotId) : List Byte :=
  let r := s.slot k
  [byte k.val, byte r.state.code, optByte r.program, byte r.cls, byte r.mode.code, byte r.base, byte r.count] ++
  put16 r.spacing ++ [flagByte r.autoRepeat] ++ chainData r.chain ++
  [flagByte r.permit, flagByte r.endRequested, optByte r.step] ++ put16 r.countdown ++
  [byte r.order.code, optByteZero r.bound] ++ pointSetBytes r.reserved ++ [byte (r.cause.elim 0 Cause.code)] ++
  programData s k

/-- READ SLOT. -/
def serveReadSlot (args : List Byte) (s : State) : Served :=
  slotRequest (fun _ => true)
    (fun k s =>
      served (slotData s k) (if (s.slot k).program.elim false (fun n => (s.programAt n).isNone) then s.usedFree else s))
    args s

/-! ### Commands -/

/-- ARM (R129). -/
def execArm (s : State) : Host.Outcome State Fault Refusal := request 30 (hasLength 8) serveArm s

/-- START (R130). -/
def execStart (s : State) : Host.Outcome State Fault Refusal := request 31 (hasLength 1) serveStart s

/-- SET_PERMIT (R131). -/
def execSetPermit (s : State) : Host.Outcome State Fault Refusal := request 32 (hasLength 2) serveSetPermit s

/-- END (R131). -/
def execEnd (s : State) : Host.Outcome State Fault Refusal := request 33 (hasLength 1) serveEnd s

/-- ABORT (R132). -/
def execAbort (s : State) : Host.Outcome State Fault Refusal := request 34 (hasLength 1) serveAbort s

/-- RESUME (R133). -/
def execResume (s : State) : Host.Outcome State Fault Refusal := request 35 (hasLength 1) serveResume s

/-- RETRY (R130). -/
def execRetry (s : State) : Host.Outcome State Fault Refusal := request 36 (hasLength 1) serveRetry s

/-- LOAD_CHAIN (R134). -/
def execLoadChain (s : State) : Host.Outcome State Fault Refusal := request 37 (hasLength 7) serveLoadChain s

/-- READ_SLOT (R134). -/
def execReadSlot (s : State) : Host.Outcome State Fault Refusal := request 38 (hasLength 1) serveReadSlot s

end Sys2Proof.Machine
end

