-- ==== Sys2Proof/Machine/RecordRequests.lean ====
section
/-! DEFINITION. The requests that read records of the line (R26, R104, R160) and those of the log (R167, R171). -/

namespace Sys2Proof.Machine

/-! ### READ VALVE (R104) -/

/-- The expected order of a valve as READ VALVE carries it: present, target, remaining, originator (slot 0 to 3, CONTROL 4;
255 with no expected order). -/
def expectedData : Option Expected → List Byte
  | some e =>
    [1#8, byte e.target.code] ++ put16 e.remaining ++
      [match e.originator with | .control => 4#8 | .slot k => byte k.val]
  | none => [0#8, 0#8] ++ put16 0 ++ [255#8]

/-- The data of READ VALVE (Table 10-5). -/
def valveData (v : ValveRec) (part : ValvePart) : List Byte :=
  [byte v.point, byte v.state.code, byte v.percent, byte v.location.code, byte v.lastTag, flagByte v.suspect] ++
  expectedData v.expected ++ [byte (slotNumber v.reserving), byte part.role.code] ++ put16 part.travel

/-- READ VALVE. -/
def serveReadValve (args : List Byte) (s : State) : Served :=
  let p := byteAt args 0
  if 63 < p then refuse stOutOfRange s
  else
    match s.valve p, valvePart s.map p with
    | some v, some part => served (valveData v part) s
    | _, _ => refuse stNotFound s

/-! ### READ NODE (R160) -/

/-- The data of READ NODE (Table 10-5). R160 does not say where its place in the record order counts from: it is 0 for the first
record (log entry 43). -/
def nodeData (s : State) (r : NodeRec) : List Byte :=
  [byte r.node, flagByte r.heard, byte r.missed, flagByte r.silent, byte r.health.code,
   byte (s.scan.nodes.findIdx (fun x => x.node == r.node)), flagByte (s.scan.pollList.contains r.node),
   byte s.scan.nodes.length] ++ put16 s.mgmt.config.scanInterval ++ put16 s.scan.countdown

/-- READ NODE. -/
def serveReadNode (args : List Byte) (s : State) : Served :=
  let n := byteAt args 0
  if n = 0 ∨ 126 < n then refuse stOutOfRange s
  else
    match s.node n with
    | some r => served (nodeData s r) s
    | none => refuse stNotFound s

/-! ### READ FLOW (R26) -/

/-- The data of READ FLOW (Table 10-5). -/
def flowData (f : FlowRec) (hold : Nat) : List Byte :=
  [byte f.point] ++ put16 f.q ++ [byte f.state.code, flagByte f.rev] ++ put16 f.age ++ put16 hold

/-- READ FLOW. -/
def serveReadFlow (args : List Byte) (s : State) : Served :=
  let p := byteAt args 0
  if 63 < p then refuse stOutOfRange s
  else
    match s.flow p, meterHold s.map p with
    | some f, some hold => served (flowData f hold) s
    | _, _ => refuse stNotFound s

/-! ### READ LOG (R171) -/

/-- A circle of the log with its first place and its capacity (R163). -/
structure CircleView where
  circle : Circle
  base : Nat
  cap : Nat
deriving DecidableEq, Repr

/-- The circle that a circle code names in a log mode, or nothing when it does not exist there. Under OFF there is none,
and every code reads as an empty circle. -/
def EventLog.view (g : EventLog) (mode : LogMode) (code : Nat) : Option CircleView :=
  match mode, code with
  | .off, _ => some { circle := ⟨0, 0⟩, base := 0, cap := 256 }
  | .mixed, 0 => some { circle := g.lower, base := 0, cap := 128 }
  | .mixed, 1 => some { circle := g.upper, base := 128, cap := 128 }
  | .mixed, _ => none
  | .track, 2 => some { circle := g.whole, base := 0, cap := 256 }
  | .traffic, 2 => some { circle := g.whole, base := 0, cap := 256 }
  | .track, _ => none
  | .traffic, _ => none

/-- The place of an age offset: the oldest record stands at the first place until the circle is full, and then at the
write index (R163). -/
def CircleView.placeAt (v : CircleView) (offset : Nat) : Nat :=
  v.base + ((if v.circle.valid < v.cap then 0 else v.circle.write) + offset) % v.cap

/-- The records at the age offsets from a start on, oldest first; offsets at or beyond the valid count give none. -/
def EventLog.recordsFrom (g : EventLog) (v : CircleView) (start count : Nat) : List LogRecord :=
  (List.range count).filterMap (fun j =>
    if start + j < v.circle.valid then g.places.getD (v.placeAt (start + j)) none else none)

/-- The data of READ LOG (Table 10-5). -/
def logData (mode : LogMode) (g : EventLog) (v : CircleView) (rs : List LogRecord) : List Byte :=
  [byte mode.code, flagByte g.frozen] ++ put16 v.circle.valid ++ [byte v.circle.write, byte rs.length] ++
  rs.flatMap encodeRecord

/-- READ LOG. -/
def serveReadLog (args : List Byte) (s : State) : Served :=
  if 2 < byteAt args 0 ∨ 3 < byteAt args 2 then refuse stOutOfRange s
  else
    match s.log.view s.mgmt.config.logMode (byteAt args 0) with
    | none => refuse stWrongMode s
    | some v =>
      served (logData s.mgmt.config.logMode s.log v (s.log.recordsFrom v (byteAt args 1) (byteAt args 2 + 1))) s

/-! ### LOG RESUME (R167) -/

/-- The log is not frozen, and emptied when asked. -/
def resumeLog (empty : Bool) (s : State) : State :=
  { s with log := { (if empty then s.log.emptied else s.log) with frozen := false } }

/-- LOG RESUME. -/
def serveLogResume (args : List Byte) (s : State) : Served :=
  match flagOfCode (byteAt args 0) with
  | some empty => served [] (resumeLog empty s)
  | none => refuse stOutOfRange s

/-! ### Commands -/

/-- READ_VALVE (R104). -/
def execReadValve (s : State) : Host.Outcome State Fault Refusal := request 40 (hasLength 1) serveReadValve s

/-- READ_NODE (R160). -/
def execReadNode (s : State) : Host.Outcome State Fault Refusal := request 41 (hasLength 1) serveReadNode s

/-- READ_FLOW (R26). -/
def execReadFlow (s : State) : Host.Outcome State Fault Refusal := request 42 (hasLength 1) serveReadFlow s

/-- READ_LOG (R171). -/
def execReadLog (s : State) : Host.Outcome State Fault Refusal := request 46 (hasLength 3) serveReadLog s

/-- LOG_RESUME (R167). -/
def execLogResume (s : State) : Host.Outcome State Fault Refusal := request 47 (hasLength 1) serveLogResume s

end Sys2Proof.Machine
end

