-- ==== Sys2Proof/Machine/Dispatch.lean ====
section
/-! DEFINITION. The meaning of every command: one arm per constructor of Instr. -/

namespace Sys2Proof.Machine

def exec (i : Instr) (s : State) : Host.Outcome State Fault Refusal :=
  match i with
  | .powerOn straps => Sys2Proof.Machine.execPowerOn straps s
  | .warmRestart straps => Sys2Proof.Machine.execWarmRestart straps s
  | .warmRestartInput lowMicros straps => Sys2Proof.Machine.execWarmRestartInput lowMicros straps s
  | .linkClearInput lowMicros => Sys2Proof.Machine.execLinkClearInput lowMicros s
  | .portAReceive bytes => Sys2Proof.Machine.execPortAReceive bytes s
  | .portBReceive bytes => Sys2Proof.Machine.execPortBReceive bytes s
  | .portBGrant => Sys2Proof.Machine.execPortBGrant s
  | .portAGrant => Sys2Proof.Machine.execPortAGrant s
  | .linkReply port reply => Sys2Proof.Machine.execLinkReply port reply s
  | .replyTimeout port => Sys2Proof.Machine.execReplyTimeout port s
  | .repeatTelegram port => Sys2Proof.Machine.execRepeatTelegram port s
  | .repeatPlaceTaken => Sys2Proof.Machine.execRepeatPlaceTaken s
  | .telegramDiscard port => Sys2Proof.Machine.execTelegramDiscard port s
  | .slotOrderPlaced slot => Sys2Proof.Machine.execSlotOrderPlaced slot s
  | .secondEvent order => Sys2Proof.Machine.execSecondEvent order s
  | .commitAnswer => Sys2Proof.Machine.execCommitAnswer s
  | .flowStale point => Sys2Proof.Machine.execFlowStale point s
  | .stall run => Sys2Proof.Machine.execStall run s
  | .holdOffExpiry point => Sys2Proof.Machine.execHoldOffExpiry point s
  | .valveMismatch point => Sys2Proof.Machine.execValveMismatch point s
  | .roundStart => Sys2Proof.Machine.execRoundStart s
  | .dwellEnd slot => Sys2Proof.Machine.execDwellEnd slot s
  | .stepTimeout slot => Sys2Proof.Machine.execStepTimeout slot s
  | .spacingEnd slot => Sys2Proof.Machine.execSpacingEnd slot s
  | .readStatus => Sys2Proof.Machine.execReadStatus s
  | .setMode => Sys2Proof.Machine.execSetMode s
  | .setConfig => Sys2Proof.Machine.execSetConfig s
  | .setTime => Sys2Proof.Machine.execSetTime s
  | .ackConditions => Sys2Proof.Machine.execAckConditions s
  | .linkClear => Sys2Proof.Machine.execLinkClear s
  | .restart => Sys2Proof.Machine.execRestart s
  | .loadPoint => Sys2Proof.Machine.execLoadPoint s
  | .loadClass => Sys2Proof.Machine.execLoadClass s
  | .loadProgram => Sys2Proof.Machine.execLoadProgram s
  | .loadStep => Sys2Proof.Machine.execLoadStep s
  | .clearShadow => Sys2Proof.Machine.execClearShadow s
  | .commit => Sys2Proof.Machine.execCommit s
  | .readTableRecord => Sys2Proof.Machine.execReadTableRecord s
  | .readRun => Sys2Proof.Machine.execReadRun s
  | .adoptRun => Sys2Proof.Machine.execAdoptRun s
  | .abandonRun => Sys2Proof.Machine.execAbandonRun s
  | .repositionRun => Sys2Proof.Machine.execRepositionRun s
  | .arm => Sys2Proof.Machine.execArm s
  | .start => Sys2Proof.Machine.execStart s
  | .setPermit => Sys2Proof.Machine.execSetPermit s
  | .endTrain => Sys2Proof.Machine.execEnd s
  | .abort => Sys2Proof.Machine.execAbort s
  | .resume => Sys2Proof.Machine.execResume s
  | .retry => Sys2Proof.Machine.execRetry s
  | .loadChain => Sys2Proof.Machine.execLoadChain s
  | .readSlot => Sys2Proof.Machine.execReadSlot s
  | .readValve => Sys2Proof.Machine.execReadValve s
  | .readNode => Sys2Proof.Machine.execReadNode s
  | .readFlow => Sys2Proof.Machine.execReadFlow s
  | .loadWatch => Sys2Proof.Machine.execLoadWatch s
  | .readLog => Sys2Proof.Machine.execReadLog s
  | .logResume => Sys2Proof.Machine.execLogResume s
  | .frameStart port => Sys2Proof.Machine.execFrameStart port s
  | .transmissionEnd port => Sys2Proof.Machine.execTransmissionEnd port s
  | .powerLoss => Sys2Proof.Machine.execPowerLoss s

end Sys2Proof.Machine
end

