-- ==== Sys2Proof/Safety.lean ====
section
/-! DEFINITION. The terms of the claims: when a request is about to be served and what an answered request leaves, and the
invariants that every command keeps. -/

namespace Sys2Proof.Machine

/-! ### Serving a request -/

/-- The controller has its supply: the bypass relay is open (R98). -/
def State.powered (s : State) : Bool := !s.lines.bypassClosed

/-- The request in service, if it has not been served yet, has a code of Table 9-2 (R176; log entry 20). -/
def State.inputSettled (s : State) : Bool :=
  match s.mgmt.service with
  | some ⟨r, .unserved⟩ => r.known
  | _ => true

/-- The request `r`, with this code and these arguments, stands in service and is about to be served: it is unserved, and a
place of the answer queue is free (R176). A request that waits behind it has a code of Table 9-2. -/
def State.serving (s : State) (r : Request) (code : Nat) (args : List Byte) : Bool :=
  s.powered && s.mgmt.service == some ⟨r, .unserved⟩ && r.payload == byte code :: args && decide (0 < s.freePlaces) &&
    s.mgmt.waiting.elim true Request.known

/-- What the answer to a request leaves: a MGMT ANSWER to the request's source with its tag, carrying code, status and data,
at the tail of the answer queue; the waiting request in service (R87, R176, R177). Nothing else changes. -/
def State.answered (s : State) (r : Request) (code status : Nat) (data : List Byte) : State :=
  { s with
    portA := { s.portA with
      answers := s.portA.answers ++
        [{ frame := mkFrame r.source (s.lines.nodeNumber.getD 0) 65 r.tag ([byte code, byte status] ++ data),
           restart := false }] }
    mgmt := { s.mgmt with
      service := s.mgmt.waiting.map (fun w => { request := w, phase := .unserved })
      waiting := none } }

/-! ### Ports -/

/-- A frame ends on a port. -/
def receive (p : Port) (f : Frame) : Instr :=
  match p with
  | .a => .portAReceive f
  | .b => .portBReceive f

/-- The frame now ending on a port was not abandoned by a link clear or a restart (R95, R97). -/
def State.listening (s : State) (p : Port) : Bool := (s.link p).receiving || !(s.link p).abandoned

/-- A frame has ended on a port: its receive state is idle (R79). -/
def State.frameEnded (s : State) (p : Port) : State :=
  s.setLink p { s.link p with receiving := false, abandoned := false }

/-- A good telegram has ended on a port and is answered with this link reply (R79). -/
def State.repliedTo (s : State) (p : Port) (r : Reply) : State := sendReply p r (s.frameEnded p)

/-- A telegram holds a port in a phase of its transmission (R80). -/
def State.holds (s : State) (p : Port) (t : Tx) (ph : TxPhase) : Bool :=
  s.powered && (s.link p).tx == some t && t.phase == ph

/-- A port begins an attempt of a telegram: the telegram goes out and holds the port (R80). -/
def State.sends (s : State) (p : Port) (t : Tx) : State :=
  s.setLink p { s.link p with tx := some { t with phase := .sending }, wire := (s.link p).wire ++ [.telegram t.frame] }

/-- The port is free again. -/
def State.frees (s : State) (p : Port) : State := s.setLink p { s.link p with tx := none }

/-- A record that is offered to the log now (R162, R164). -/
def State.record (s : State) (kind : LogKind) (run point slot detail : Nat) : LogRecord :=
  { time := s.tracker.clock, kind := kind, run := run, point := point, slot := slot, detail := detail }

/-- The log after a record was offered to it (R164). -/
def State.logWith (s : State) (r : LogRecord) : EventLog := s.log.offer s.mgmt.config.logMode r

/-! ### Invariants -/

/-- Every queue of the telegram path is within its capacity, a held answer-queue place counted (R85, R86, R87), and the poll
burst count within 0 to 2 (R90). -/
def State.QueuesBounded (s : State) : Prop :=
  s.portA.down.length ≤ 16 ∧ s.portB.up.length ≤ 24 ∧ s.portA.answers.length + s.heldPlaces ≤ 4 ∧ s.portB.burst ≤ 2

/-- What holds Port B is the head of the down queue, a slot's order, or no valve order at all (R90). -/
def State.SourcesSound (s : State) : Prop :=
  ∀ t, s.portB.link.tx = some t →
    t.source = .down ∨ (∃ k, t.source = .slot k) ∨ isFullOrder t.frame = false

/-- The run table holds at most 16 runs with different ids from 1 to 255 (R29, R30), and their number is what the four
counters say, modulo 2^32 (R37). -/
def State.RunsCounted (s : State) : Prop :=
  (s.tracker.runs.map Run.id).Nodup ∧ s.tracker.runs.length ≤ 16 ∧ s.tracker.lastId ≤ 255 ∧
  (∀ r ∈ s.tracker.runs, 1 ≤ r.id ∧ r.id ≤ 255) ∧
  BitVec.ofNat 32 s.tracker.runs.length =
    s.tracker.inserted - s.tracker.received - s.tracker.exited - s.tracker.abandoned

/-- While a Line Map commit is pending, the run table is empty, every slot is IDLE and the COMMIT is in service (the note to
R14). -/
def State.CommitGuarded (s : State) : Prop :=
  s.tables.pendingCommit = some .lineMap →
    s.tracker.runs = [] ∧ (∀ k, (s.slot k).state = .idle) ∧ ∃ r, s.mgmt.service = some ⟨r, .commitTaken⟩

/-- The run table is ordered leader first, and every run stands from its last fix to the END point (R30), on an active map
whose chainages rise (R16). -/
def State.RunsOrdered (s : State) : Prop :=
  s.RunsCounted ∧ s.CommitGuarded ∧
  s.map.Pairwise (fun a b => a.chainage < b.chainage) ∧
  s.tracker.runs.Pairwise (fun a b => b.position ≤ a.position) ∧
  ∀ r ∈ s.tracker.runs, chainMm s.map r.lastFix ≤ r.position ∧ r.position ≤ endMm s.map

/-- A class record within the ranges of Table 1-3, as far as the run record depends on them (R7). -/
def PigClass.InRange (c : PigClass) : Prop :=
  500 ≤ c.slip0 ∧ c.slip0 ≤ 1000 ∧ 1 ≤ c.band0 ∧ c.band0 ≤ c.bandMax

/-- A Class Table of eight places whose records are in range (R7). -/
def Tables.ClassesInRange (t : Tables) : Prop :=
  t.classes.length = 8 ∧ ∀ c, some c ∈ t.classes → c.InRange

/-- The class of every run, and the class of every slot that is not IDLE and of its chain record, is defined in the active
Class Table (R8), and every run's slip and band are within their limits (R27). -/
def State.RunsWithinClass (s : State) : Prop :=
  s.tables.active.ClassesInRange ∧ s.tables.shadow.ClassesInRange ∧
  (∀ r ∈ s.tracker.runs, (s.classAt r.cls).isSome ∧ 500 ≤ r.slip ∧ r.slip ≤ 1000 ∧
    (s.classOf r.cls).band0 * 1000 ≤ r.band ∧ r.band ≤ (s.classOf r.cls).bandMax * 1000) ∧
  ∀ k, (s.slot k).state ≠ .idle →
    (s.classAt (s.slot k).cls).isSome ∧ ∀ ch, (s.slot k).chain = some ch → (s.classAt ch.cls).isSome

/-- Slot and run name each other in every binding, and an IDLE slot has none (R142). -/
def State.BindingsMirrored (s : State) : Prop :=
  s.RunsCounted ∧
  (∀ k id, (s.slot k).bound = some id → ∃ r ∈ s.tracker.runs, r.id = id ∧ r.bound = some k) ∧
  (∀ r ∈ s.tracker.runs, ∀ k, r.bound = some k → (s.slot k).bound = some r.id) ∧
  ∀ k, (s.slot k).state = .idle → (s.slot k).bound = none

/-- Each block's records follow the active Line Map: one valve record per VALVE point, one detector record per DETECTOR point,
one flow record per METER point, one node record per supervised node, in the order of the map (R18); the poll pending list
names supervised nodes, each at most once (R156). -/
def State.RecordsFollowMap (s : State) : Prop :=
  s.interlock.valves.map ValveRec.point = indicesOf s.map Point.isValve ∧
  s.matcher.detectors.map DetectorRec.point = detectorIndices s.map ∧
  s.tracker.flows.map FlowRec.point = indicesOf s.map Point.isMeter ∧
  s.scan.nodes.map NodeRec.node = supervisedNodes s.map ∧
  s.scan.pollList.Nodup ∧ ∀ n ∈ s.scan.pollList, n ∈ supervisedNodes s.map

/-- Slots other than IDLE exist in GUARDED alone (R127). -/
def State.SlotsIdleOutsideGuarded (s : State) : Prop := s.mgmt.mode ≠ .guarded → ∀ k, (s.slot k).state = .idle

/-- Write index and valid count of a circle of this capacity; the write index follows the valid count until the circle is
full (R163). -/
def Circle.Sound (c : Circle) (cap : Nat) : Prop :=
  c.write < cap ∧ c.valid ≤ cap ∧ (c.valid < cap → c.write = c.valid)

/-- The first places from `base` on hold as many records of this class as the circle counts (R163). -/
def EventLog.HoldsClass (g : EventLog) (base : Nat) (c : Circle) (track : Bool) : Prop :=
  ∀ i, i < c.valid → ∃ r, g.places.getD (base + i) none = some r ∧ r.kind.isTrack = track

/-- The log's circles are sound, and each holds only records of the class that the log mode keeps in it (R163). -/
def State.LogSound (s : State) : Prop :=
  s.log.places.length = 256 ∧ s.log.lower.Sound 128 ∧ s.log.upper.Sound 128 ∧ s.log.whole.Sound 256 ∧
  (s.mgmt.config.logMode = .mixed → s.log.HoldsClass 0 s.log.lower true ∧ s.log.HoldsClass 128 s.log.upper false) ∧
  (s.mgmt.config.logMode = .track → s.log.HoldsClass 0 s.log.whole true) ∧
  (s.mgmt.config.logMode = .traffic → s.log.HoldsClass 0 s.log.whole false)

end Sys2Proof.Machine
end

