-- ==== Sys2Proof/Certificates/Slice0/Obligations.lean ====
section
/-! DEFINITION. The statements for the provers. A request statement says what serving the request leaves when it stands in
service with a free place (`State.serving`): the answer of `State.answered` and, of the rest, only what the statement
writes. -/

open Sys2Proof Sys2Proof.Machine

/-! ### The machine -/

/-- A step takes the command at the front of the queue and runs it with the rest of the queue; with an empty queue it answers
the same state. How commands come to the block and that it idles are the model's choices (log entries 1 and 2). -/
def Obligations.StepRunsFrontCommand : Prop :=
  (∀ (c : Instr) (rest : List Instr) (s : State),
    step { s with pending := c :: rest } = exec c { s with pending := rest }) ∧
  ∀ s : State, s.pending = [] → step s = .next s

/-- Every command whose operands are well formed gives a next state, in every state, and leaves the queue of waiting commands
as it is; every other command is refused by name (log entry 34). -/
def Obligations.WellFormedCommandsAnswerNext : Prop :=
  (∀ (c : Instr) (s : State), c.wf = true → ∃ t, exec c s = .next t ∧ t.pending = s.pending) ∧
  ∀ (c : Instr) (s : State), c.wf = false → exec c s = .refused .illFormed

/-! ### Supply and hardware lines -/

/-- The state at the end of power-on initialisation. The node number and the straps are the model's choice (log entry 5). -/
def Obligations.ResetHoldsPowerOnValues : Prop :=
  State.reset.tables.active = Tables.empty ∧ State.reset.tables.shadow = Tables.empty ∧
  State.reset.tables.pendingCommit = none ∧
  State.reset.tables.watch =
    List.replicate 8 { enabled := false, node := 0, mask := 0, kind := none, dir := .either, freeze := false } ∧
  State.reset.tracker.clock = 0#32 ∧ State.reset.tracker.runs = [] ∧ State.reset.tracker.flows = [] ∧
  State.reset.tracker.lastId = 0 ∧ State.reset.tracker.inserted = 0#32 ∧ State.reset.tracker.received = 0#32 ∧
  State.reset.tracker.exited = 0#32 ∧ State.reset.tracker.abandoned = 0#32 ∧
  State.reset.matcher.detectors = [] ∧ State.reset.interlock.valves = [] ∧
  (∀ k, State.reset.slot k =
    { state := .idle, program := none, cls := 0, mode := .single, base := 1, count := 1, spacing := 0,
      autoRepeat := false, chain := none, permit := false, endRequested := false, step := none, countdown := 0,
      order := .none, bound := none, reserved := [], cause := none }) ∧
  State.reset.scan = { nodes := [], pollList := [], countdown := 0 } ∧
  State.reset.log.lower = ⟨0, 0⟩ ∧ State.reset.log.upper = ⟨0, 0⟩ ∧ State.reset.log.whole = ⟨0, 0⟩ ∧
  State.reset.log.frozen = false ∧
  State.reset.mgmt =
    { config := { managerNode := 0, alertNode := 0, alertEnables := 8191#13, alarmMask := 112#11, downDrop := false,
                  upDrop := false, rotating := true, scanInterval := 30, logMode := .mixed, freezeOnAlarm := true }
      mode := .transparent, conditions := 0#13, service := none, waiting := none } ∧
  State.reset.portA.down = [] ∧ State.reset.portA.answers = [] ∧ State.reset.portA.alert = none ∧
  State.reset.portB.up = [] ∧ (∀ k, State.reset.order k = none) ∧ State.reset.portB.burst = 0 ∧
  State.reset.portB.turnForward = false ∧
  (∀ p, (State.reset.link p).receiving = false ∧ (State.reset.link p).tx = none ∧ (State.reset.link p).checkErrors = 0) ∧
  State.reset.lines.bypassClosed = false ∧ State.reset.lines.nodeNumber = some 2

/-- POWER_ON sets every block to its power-on values from any state, reads the node number from the straps and opens the
relay; POWER_LOSS closes the relay. The record of the wire and the counter of free values are the model's own and stay
(log entries 7 and 12). -/
def Obligations.PowerOnAndPowerLoss : Prop :=
  (∀ (straps : BitVec 7) (s : State),
    exec (.powerOn straps) s =
      .next { State.reset with
        portA := { State.reset.portA with link := { State.reset.portA.link with wire := s.portA.link.wire } }
        portB := { State.reset.portB with link := { State.reset.portB.link with wire := s.portB.link.wire } }
        lines := { straps := straps
                   nodeNumber := if 1 ≤ straps.toNat ∧ straps.toNat ≤ 126 then some straps.toNat else none
                   bypassClosed := false }
        fresh := s.fresh
        pending := s.pending }) ∧
  ∀ s : State, exec .powerLoss s = .next { s with lines := { s.lines with bypassClosed := true } }

/-- While the bypass relay is closed, no command but POWER_ON changes anything. -/
def Obligations.ClosedRelayStopsEverything : Prop :=
  ∀ (c : Instr) (s : State), s.lines.bypassClosed = true → c.wf = true → (∀ straps, c ≠ .powerOn straps) →
    exec c s = .next s

/-- A warm restart, as R188 lists its effects: the SLOT ENDED records of the slots that are not IDLE go to the log as it
stands, in order of slot number, which the manual leaves open (log entry 41), and then the restart takes effect. A slot without a
current step is recorded with 255 (log entry 14). The node number of R186 is read from the straps, which the command carries (log
entry 5). The warm-restart input gives it when it is low for 1 ms, and a shorter pulse only leaves the straps as they are given
(log entries 5 and 31). -/
def Obligations.WarmRestartTakesEffect : Prop :=
  ∀ (straps : BitVec 7) (s : State), s.powered = true →
    (∃ t, exec (.warmRestart straps) s = .next t ∧
      t.mgmt = { config := s.mgmt.config, mode := .transparent, conditions := 0#13, service := none, waiting := none } ∧
      t.tracker = { clock := s.tracker.clock, flows := (indicesOf s.map Point.isMeter).map FlowRec.initial, runs := [],
                    lastId := 0, inserted := 0#32, received := 0#32, exited := 0#32, abandoned := 0#32 } ∧
      (∀ k, t.slot k =
        { Slot.initial with
          cause := if (s.slot k).state = .idle then (s.slot k).cause else some .warmRestart }) ∧
      t.portA.down = [] ∧ t.portB.up = [] ∧ t.portA.answers = [] ∧ (∀ k, t.order k = none) ∧ t.portA.alert = none ∧
      (∀ p, (t.link p).tx = none ∧ (t.link p).receiving = false ∧ (t.link p).checkErrors = 0) ∧
      t.portB.burst = 0 ∧ t.portB.turnForward = false ∧
      t.interlock.valves = (indicesOf s.map Point.isValve).map ValveRec.initial ∧
      t.matcher.detectors = (detectorIndices s.map).map DetectorRec.initial ∧
      t.scan = { nodes := (supervisedNodes s.map).map NodeRec.initial, pollList := [], countdown := 0 } ∧
      t.tables = { active := s.tables.active, shadow := Tables.empty, pendingCommit := none, watch := s.tables.watch } ∧
      t.lines = { straps := straps
                  nodeNumber := if 1 ≤ straps.toNat ∧ straps.toNat ≤ 126 then some straps.toNat else none
                  bypassClosed := false } ∧
      t.log = slotIds.foldl
        (fun g k =>
          if (s.slot k).state = .idle then g
          else g.offer s.mgmt.config.logMode
            (s.record .slotEnded ((s.slot k).bound.getD 0) (s.trapOf k) k.val (8 * 256 + (s.slot k).step.getD 255)))
        s.log ∧
      t.pending = s.pending) ∧
    (∀ micros, 1000 ≤ micros → exec (.warmRestartInput micros straps) s = exec (.warmRestart straps) s) ∧
    ∀ micros, micros < 1000 →
      exec (.warmRestartInput micros straps) s = .next { s with lines := { s.lines with straps := straps } }

/-- A link clear from the input, when the answer of no RESTART stands in the queue: what it empties and abandons, the condition
with its alert, and all that it leaves. LINK CLEARED rises after the pending alert is emptied (log entry 37). A slot whose own
order was in its place has lost it, which is said of a QUEUED order alone (log entry 26); a slot in RUNNING whose order awaited
the place has it placed, and a FAILED one keeps AWAITING PLACE (log entry 44). When the answer of a RESTART is emptied, the warm
restart takes effect, with the straps as they stand (log entry 31). The LINK CLEAR request makes the same link clear, with or
without a free place, and then its answer OK. -/
def Obligations.LinkClearEmptiesThePath : Prop :=
  (∀ (micros : Nat) (s : State), s.powered = true →
    (micros < 1000 → exec (.linkClearInput micros) s = .next s) ∧
    (1000 ≤ micros → s.portA.answers.any Answer.restart = true →
      exec (.linkClearInput micros) s = exec (.warmRestart s.lines.straps) s) ∧
    (1000 ≤ micros → s.portA.answers.any Answer.restart = false → s.inputSettled = true →
      ∃ t, exec (.linkClearInput micros) s = .next t ∧
        t.portA.down = [] ∧ t.portB.up = [] ∧ t.portA.answers = [] ∧
        (∀ p, (t.link p).tx = none ∧ (t.link p).receiving = false ∧ (t.link p).checkErrors = (s.link p).checkErrors) ∧
        t.heldPlaces = 0 ∧ t.portB.burst = 0 ∧ t.portB.turnForward = s.portB.turnForward ∧
        t.mgmt = { s.mgmt with conditions := s.mgmt.conditions ||| condBit 12 } ∧
        t.portA.alert =
          (if s.mgmt.conditions.getLsbD 12 then none
           else alertAfterRise s.mgmt.config s.lines.nodeNumber.isSome s.tracker.clock 12
                  (s.mgmt.conditions ||| condBit 12) none) ∧
        (∀ k, (s.slot k).state = .running → (s.slot k).order = .awaitingPlace →
          t.slot k = { s.slot k with order := .queued } ∧
          ∃ o, t.order k = some o ∧ o.begun = false ∧ o.logged = false) ∧
        (∀ k, ¬((s.slot k).state = .running ∧ (s.slot k).order = .awaitingPlace) →
          t.order k = none ∧
          t.slot k = { s.slot k with
            order := if (s.slot k).order = .queued ∧ (s.order k).isSome then .lost else (s.slot k).order }) ∧
        t.tables = s.tables ∧ t.tracker = s.tracker ∧ t.matcher = s.matcher ∧ t.interlock = s.interlock ∧
        t.scan = s.scan ∧ t.log = s.log ∧ t.lines = s.lines ∧ t.pending = s.pending)) ∧
  ∀ (r : Request) (s : State), s.powered = true → s.mgmt.service = some ⟨r, .unserved⟩ → r.payload = [6#8] →
    s.mgmt.waiting.elim true Request.known = true → s.portA.answers.any Answer.restart = false →
    ∃ t : State, exec (.linkClearInput 1000) s = .next t ∧ exec .linkClear s = .next (t.answered r 6 0 [])

/-! ### Telegrams and records -/

/-- Every telegram the controller makes is a good telegram of the layout of Table 10-1: any receiver that judges it as the
controller does finds it good and reads back each field. -/
def Obligations.MadeTelegramsReadBack : Prop :=
  ∀ (dest source kind : Nat) (tag : Byte) (payload : List Byte),
    dest ≤ 127 → 1 ≤ source → source ≤ 126 → kind ≤ 255 → payload.length ≤ 48 →
    let f := mkFrame dest source kind tag payload
    frameBad f = false ∧ f.length = payload.length + 7 ∧ frameDest f = dest ∧ frameSource f = source ∧
      frameKind f = kind ∧ frameTag f = tag ∧ framePayload f = payload

/-- Every record that a load accepts reads back from the layout in which READ TABLE RECORD carries it: point, class, program,
step and watch records, no field dropped. -/
def Obligations.TableRecordsReadBack : Prop :=
  (∀ bs p, parsePoint bs = some p →
    parsePoint (encodePoint p) = some p ∧ pointArgLength p.part.code = some ((encodePoint p).length + 1)) ∧
  (∀ args c, parseClass args = some c → ∀ i, parseClass (i :: encodeClass c) = some c) ∧
  (∀ args p, parseProgram args = some p → ∀ i, parseProgram (i :: encodeProgram p) = some p) ∧
  (∀ args r, parseStep args = some r → ∀ i, parseStep (i :: encodeStep r) = some r) ∧
  ∀ args w, parseWatch args = some w → ∀ i, parseWatch (i :: encodeWatch w) = some w

/-! ### Conditions and alerts -/

/-- A rise sets the flag and makes or merges an ALERT; setting a set flag changes nothing; nothing else changes. The condition
word is 0 without a flag and otherwise lies from 32,769 to 40,959. -/
def Obligations.ConditionsRiseAndAlert : Prop :=
  (∀ (c : Nat) (s : State), c < 13 → s.mgmt.conditions.getLsbD c = true → raise c s = s) ∧
  (∀ (c : Nat) (s : State), c < 13 → s.mgmt.conditions.getLsbD c = false →
    raise c s =
      { s with
        mgmt := { s.mgmt with conditions := s.mgmt.conditions ||| condBit c }
        portA := { s.portA with
          alert :=
            if s.mgmt.config.alertEnables.getLsbD c = true ∧ s.mgmt.config.alertNode ≠ 0 ∧ s.lines.nodeNumber ≠ none then
              some (match s.portA.alert with
                | none => { dest := s.mgmt.config.alertNode, word := conditionWord (s.mgmt.conditions ||| condBit c),
                            clock := s.tracker.clock }
                | some a =>
                  { dest := a.dest, word := a.word ||| ((condBit c).setWidth 16 ||| 0x8000#16), clock := a.clock })
            else s.portA.alert } }) ∧
  conditionWord 0#13 = 0#16 ∧
  ∀ w : BitVec 13, w ≠ 0#13 → 32769 ≤ (conditionWord w).toNat ∧ (conditionWord w).toNat ≤ 40959

/-! ### Receiving -/

/-- A bad telegram on either port, by the four conditions of R77 (a source above 127 by log entry 10) with the check of R76: it
gets no reply, the port counts it, saturating, and CHECK ERROR is set; nothing else changes. A frame that cuts another short
makes that one bad. The end of a frame that was abandoned is no telegram (log entry 9). -/
def Obligations.BadTelegramsAreCounted : Prop :=
  (∀ f : Frame, frameBad f = true ↔
    (f.length < 7 ∨ 55 < f.length) ∨ f.length ≠ byteAt f 4 + 7 ∨
      (crc (f.take (f.length - 2))).toNat ≠ byteAt f (f.length - 2) * 256 + byteAt f (f.length - 1) ∨
      (byteAt f 1 = 0 ∨ 127 ≤ byteAt f 1)) ∧
  crc [] = 65535#16 ∧
  (∀ (bs : List Byte) (b : Byte),
    crc (bs ++ [b]) = (List.range 8).foldl
      (fun (r : BitVec 16) (i : Nat) => if r.msb = b.getLsbD (7 - i) then r <<< 1 else (r <<< 1) ^^^ 0x1021#16) (crc bs)) ∧
  ∀ (p : Port) (s : State), s.powered = true →
    (∀ f : Frame, s.listening p = true → frameBad f = true →
      exec (receive p f) s =
        .next (raise 5 (s.setLink p { s.link p with
          receiving := false, abandoned := false, checkErrors := min 65535 ((s.link p).checkErrors + 1) }))) ∧
    (∀ f : Frame, s.listening p = false →
      exec (receive p f) s = .next (s.setLink p { s.link p with abandoned := false })) ∧
    ((s.link p).receiving = false →
      exec (.frameStart p) s = .next (s.setLink p { s.link p with receiving := true, abandoned := false })) ∧
    ((s.link p).receiving = true →
      exec (.frameStart p) s =
        .next (raise 5 (s.setLink p { s.link p with
          receiving := true, abandoned := false, checkErrors := min 65535 ((s.link p).checkErrors + 1) })))

/-- A good telegram on Port A, by the six steps of R82, and the three outcomes of R175 for a request. -/
def Obligations.PortAReceives : Prop :=
  ∀ (f : Frame) (s : State), s.powered = true → s.listening .a = true → frameBad f = false →
    let code := (framePayload f).head?.elim 0 BitVec.toNat
    let request : Request := { source := frameSource f, tag := frameTag f, payload := framePayload f }
    let ok := s.repliedTo .a .accept
    (s.freePlaces = 0 → exec (.portAReceive f) s = .next (s.repliedTo .a .wait)) ∧
    (0 < s.freePlaces → s.lines.nodeNumber = some (frameDest f) →
      (frameKind f ≠ 64 → exec (.portAReceive f) s = .next ok) ∧
      (frameKind f = 64 → s.mgmt.config.managerNode ≠ 0 → s.mgmt.config.managerNode ≠ frameSource f →
        exec (.portAReceive f) s = .next (ok.setAnswers (s.portA.answers ++
          [{ frame := mkFrame (frameSource f) (frameDest f) 65 (frameTag f) [byte code, 2#8], restart := false }]))) ∧
      (frameKind f = 64 → (s.mgmt.config.managerNode = 0 ∨ s.mgmt.config.managerNode = frameSource f) →
        (s.mgmt.service.isSome = true → s.mgmt.waiting.isSome = true →
          exec (.portAReceive f) s = .next (ok.setAnswers (s.portA.answers ++
            [{ frame := mkFrame (frameSource f) (frameDest f) 65 (frameTag f) [byte code, 1#8], restart := false }]))) ∧
        (s.mgmt.service.isSome = true → s.mgmt.waiting = none →
          exec (.portAReceive f) s = .next (ok.setInput s.mgmt.service (some request))) ∧
        (s.mgmt.service = none → request.known = true →
          exec (.portAReceive f) s =
            .next (ok.setInput (some { request := request, phase := .unserved }) s.mgmt.waiting)))) ∧
    (0 < s.freePlaces → s.lines.nodeNumber ≠ some (frameDest f) →
      (s.portA.down.length < 16 →
        exec (.portAReceive f) s = .next ((watchTelegram false f ok).setDown (s.portA.down ++ [f]))) ∧
      (16 ≤ s.portA.down.length → s.mgmt.config.downDrop = false →
        exec (.portAReceive f) s = .next (s.repliedTo .a .wait)) ∧
      (16 ≤ s.portA.down.length → s.mgmt.config.downDrop = true →
        exec (.portAReceive f) s = .next (raise 2 (watchTelegram false f ok))))

/-- A good telegram on Port B, by the four steps of R83. Its examination: in TRANSPARENT the watch list alone; otherwise, in the
order of Table 4-5, the hearing of its source, the block that its kind and its mapping name, and the watch list. A payload
shorter than its layout, or a source without a point of the kind, names no block. -/
def Obligations.PortBReceives : Prop :=
  (∀ (f : Frame) (s : State), s.powered = true → s.listening .b = true → frameBad f = false →
    let ok := s.repliedTo .b .accept
    (s.lines.nodeNumber = some (frameDest f) → exec (.portBReceive f) s = .next (examine f ok)) ∧
    (s.lines.nodeNumber ≠ some (frameDest f) →
      (s.portB.up.length < 24 →
        exec (.portBReceive f) s = .next ((examine f ok).setUp (s.portB.up ++ [f]))) ∧
      (24 ≤ s.portB.up.length → s.mgmt.config.upDrop = false →
        exec (.portBReceive f) s = .next (s.repliedTo .b .wait)) ∧
      (24 ≤ s.portB.up.length → s.mgmt.config.upDrop = true →
        exec (.portBReceive f) s = .next (raise 3 (examine f ok))))) ∧
  (∀ (f : Frame) (s : State), s.mgmt.mode = .transparent → examine f s = watchTelegram true f s) ∧
  ∀ (f : Frame) (s : State), s.mgmt.mode ≠ .transparent →
    let source := frameSource f
    let payload := framePayload f
    let heard := hearNode source s
    let leaves := fun u : State => examine f s = watchTelegram true f u
    (∀ p, frameKind f = 34 → 3 ≤ payload.length → detectorOfNode s.map source (byteAt payload 0) = some p →
      ((takePassage p payload heard).run = none → leaves (takePassage p payload heard).state) ∧
      ∀ id, (takePassage p payload heard).run = some id → leaves (handPassage p id (takePassage p payload heard).state)) ∧
    (frameKind f = 35 → 4 ≤ payload.length → leaves (takeFlowReport source payload heard)) ∧
    (∀ p, frameKind f = 33 → 4 ≤ payload.length → valveOfNode s.map source = some p →
      leaves (handReport p (takeValveReport p payload heard))) ∧
    (frameKind f = 36 → 1 ≤ payload.length → leaves (takeNodeState source payload heard)) ∧
    ((frameKind f ≠ 33 ∧ frameKind f ≠ 34 ∧ frameKind f ≠ 35 ∧ frameKind f ≠ 36) ∨
        (frameKind f = 34 ∧ (payload.length < 3 ∨ detectorOfNode s.map source (byteAt payload 0) = none)) ∨
        (frameKind f = 35 ∧ payload.length < 4) ∨
        (frameKind f = 33 ∧ (payload.length < 4 ∨ valveOfNode s.map source = none)) ∨
        (frameKind f = 36 ∧ payload.length < 1) →
      leaves heard)

/-- The watch list: the first enabled entry that a telegram matches in node, kind and direction writes WATCH HIT, and freezes
the log when its action is FREEZE; a telegram that matches none changes nothing. A destination above 127 is taken as it stands
(log entry 40). Which offered record the log keeps and in which place, by its mode and the record's class; and the freeze, which
has no effect on a frozen log or in OFF. -/
def Obligations.WatchListActsOnFirstHit : Prop :=
  (∀ (up : Bool) (f : Frame) (s : State),
    let node := if up then frameSource f else frameDest f
    let hit := fun w : WatchEntry =>
      w.enabled = true ∧ (node ^^^ w.node) &&& w.mask = 0 ∧ (w.kind = none ∨ w.kind = some (frameKind f)) ∧
        (w.dir = .either ∨ (w.dir = .up ∧ up = true) ∨ (w.dir = .down ∧ up = false))
    ((∀ w ∈ s.tables.watch, ¬ hit w) → watchTelegram up f s = s) ∧
    ∀ (before : List WatchEntry) (w : WatchEntry) (after : List WatchEntry),
      s.tables.watch = before ++ w :: after → (∀ x ∈ before, ¬ hit x) → hit w →
      let logged := { s with
        log := s.logWith (s.record .watchHit 0 node (before.length + if up then 16 else 0)
          (frameKind f * 256 + (frameTag f).toNat)) }
      watchTelegram up f s = if w.freeze then freezeLog logged else logged) ∧
  (∀ (mode : LogMode) (r : LogRecord) (g : EventLog),
    let track := r.kind ∈ ([.runInserted, .runAdopted, .runReceived, .runExited, .runAbandoned, .runRepositioned,
      .passageMatched, .passageOrphan, .detectorMissed, .runLost, .anomalyAlarm] : List LogKind)
    let advanced := fun (c : Machine.Circle) (cap : Nat) =>
      ({ write := if c.write + 1 = cap then 0 else c.write + 1, valid := min cap (c.valid + 1) } : Machine.Circle)
    (g.frozen = true ∨ mode = .off ∨ (mode = .track ∧ ¬ track) ∨ (mode = .traffic ∧ track) → g.offer mode r = g) ∧
    (g.frozen = false → (mode = .track ∧ track) ∨ (mode = .traffic ∧ ¬ track) → g.whole.write < 256 → g.whole.valid ≤ 256 →
      g.offer mode r = { g with places := g.places.set g.whole.write (some r), whole := advanced g.whole 256 }) ∧
    (g.frozen = false → mode = .mixed → track → g.lower.write < 128 → g.lower.valid ≤ 128 →
      g.offer mode r = { g with places := g.places.set g.lower.write (some r), lower := advanced g.lower 128 }) ∧
    (g.frozen = false → mode = .mixed → ¬ track → g.upper.write < 128 → g.upper.valid ≤ 128 →
      g.offer mode r = { g with places := g.places.set (128 + g.upper.write) (some r), upper := advanced g.upper 128 })) ∧
  ∀ s : State,
    (s.log.frozen = true ∨ s.mgmt.config.logMode = .off → freezeLog s = s) ∧
    (s.log.frozen = false → s.mgmt.config.logMode ≠ .off →
      freezeLog s = raise 11 { s with log := { s.log with frozen := true } })

/-- Hearing and the field reports of R24 and R158, shown on telegrams that end at the controller: in MONITOR and GUARDED the
source is heard, and the detectors of a SILENT source are covered again; a FLOW REPORT changes its meter's record by quality and direction, a NODE STATE the last health; no other
record, run or slot changes. -/
def Obligations.FieldReportsChangeTheirRecord : Prop :=
  ∀ (f : Frame) (s : State), s.powered = true → s.listening .b = true → frameBad f = false →
    s.lines.nodeNumber = some (frameDest f) → s.mgmt.mode ≠ .transparent → s.RecordsFollowMap →
    (frameKind f ≠ 33 → frameKind f ≠ 34 →
      ∃ t, exec (.portBReceive f) s = .next t ∧
        t.tracker.runs = s.tracker.runs ∧ t.seq = s.seq ∧ t.interlock = s.interlock ∧ t.portB.up = s.portB.up ∧
        t.matcher.detectors = s.matcher.detectors.map (fun d =>
          if (s.node (frameSource f)).any NodeRec.silent = true ∧
             (s.map[d.point]?).bind Point.node = some (frameSource f) then { d with covered := true } else d) ∧
        t.scan.pollList = s.scan.pollList.filter (fun n => n != frameSource f) ∧
        (∀ n, n ≠ frameSource f → t.node n = s.node n) ∧
        t.node (frameSource f) = (s.node (frameSource f)).map (fun r =>
          { r with
            heard := true, missed := 0, silent := false
            health :=
              if frameKind f = 36 ∧ 1 ≤ (framePayload f).length then
                (match byteAt (framePayload f) 0 with | 0 => .good | 1 => .degraded | _ => .failed)
              else r.health }) ∧
        ∀ p, t.flow p =
          if frameKind f = 35 ∧ 4 ≤ (framePayload f).length ∧ meterOfNode s.map (frameSource f) = some p ∧
             byteAt (framePayload f) 3 = 0 then
            (s.flow p).map (fun r =>
              { r with
                q := if byteAt (framePayload f) 2 = 0 then min 65000 (be16 (framePayload f) 0) else 0
                rev := byteAt (framePayload f) 2 != 0
                state := .live
                age := (meterHold s.map p).getD 0 })
          else s.flow p)

/-! ### Transmitting -/

/-- The Port A arbiter: a free port grants the answer queue, then the pending alert, then the up queue; an ALERT leaves its
place at the grant, the others stay at the head of their queue. A port that is held grants nothing. -/
def Obligations.PortAGrantsInFixedOrder : Prop :=
  ∀ s : State, s.powered = true →
    ((s.link .a).tx.isSome = true → exec .portAGrant s = .next s) ∧
    ((s.link .a).tx = none →
      (∀ a rest, s.portA.answers = a :: rest → exec .portAGrant s = .next (s.sends .a (Tx.fresh .answer a.frame))) ∧
      (∀ al, s.portA.answers = [] → s.portA.alert = some al →
        exec .portAGrant s = .next ((s.setAlert none).sends .a (Tx.fresh .alert
          (mkFrame al.dest (s.lines.nodeNumber.getD 0) 66 0#8 (put16 al.word.toNat ++ put32 al.clock.toNat))))) ∧
      (∀ f rest, s.portA.answers = [] → s.portA.alert = none → s.portB.up = f :: rest →
        exec .portAGrant s = .next (s.sends .a (Tx.fresh .up f))) ∧
      (s.portA.answers = [] → s.portA.alert = none → s.portB.up = [] → exec .portAGrant s = .next s))

/-- The Port B arbiter with no slot order in any place: a poll goes out while the burst count is below 2 or the head of the down
queue is not eligible; otherwise that head goes out. In GUARDED a full valve order waits while no answer-queue place is free for
it, a request in service claiming one first (log entry 19), and goes out after its check; a rejected one leaves a REJECT in that
place. Outside GUARDED, and when its payload is short, it goes out unchecked. -/
def Obligations.PortBGrantsPollsAndForwards : Prop :=
  ∀ s : State, s.powered = true → (s.link .b).tx = none → (∀ k, s.order k = none) →
    let waits := fun f : Frame =>
      frameKind f = 17 ∧ 2 ≤ (framePayload f).length ∧ s.mgmt.mode = .guarded ∧ s.freePlaces ≤ s.claimed
    (∀ n rest, s.scan.pollList = n :: rest → (s.portB.burst < 2 ∨ ∀ f, s.portA.down.head? = some f → waits f) →
      exec .portBGrant s =
        .next ((({ s with
            scan := { s.scan with pollList := rest }
            portB := { s.portB with burst := min 2 (s.portB.burst + 1) } } : State)).sends .b
          (Tx.fresh .poll (mkFrame n (s.lines.nodeNumber.getD 0) 18 0#8 [])))) ∧
    (s.scan.pollList = [] → (∀ f, s.portA.down.head? = some f → waits f) → exec .portBGrant s = .next s) ∧
    ∀ f rest, s.portA.down = f :: rest → (s.scan.pollList = [] ∨ 2 ≤ s.portB.burst) →
      let granted : State := { s with
        portB := { s.portB with
          burst := 0, turnForward := if s.mgmt.config.rotating then false else s.portB.turnForward } }
      (frameKind f ≠ 17 ∨ (framePayload f).length < 2 ∨ s.mgmt.mode = .transparent →
        exec .portBGrant s =
          .next (granted.sends .b { Tx.fresh .down f with logged := s.mgmt.mode != .transparent })) ∧
      (frameKind f = 17 → 2 ≤ (framePayload f).length → s.mgmt.mode = .monitor →
        exec .portBGrant s =
          .next ((logForwarded .control f granted).sends .b { Tx.fresh .down f with logged := true })) ∧
      (frameKind f = 17 → 2 ≤ (framePayload f).length → s.mgmt.mode = .guarded → s.claimed < s.freePlaces →
        (checkOrder .control f s = .forward →
          exec .portBGrant s =
            .next ((logForwarded .control f granted).sends .b
              { Tx.fresh .down f with placeHeld := true, logged := true })) ∧
        (∀ reason run slot, checkOrder .control f s = .reject reason run slot →
          exec .portBGrant s =
            .next { granted with
              portA := { granted.portA with
                down := rest
                answers := granted.portA.answers ++
                  [{ frame := mkFrame (frameSource f) (s.lines.nodeNumber.getD 0) 49 (frameTag f)
                       [byte (byteAt (framePayload f) 1), byte (frameDest f), byte reason]
                     restart := false }] }
              log := s.logWith (s.record .orderRejected run (orderPoint f s) slot
                (reason * 256 + byteAt (framePayload f) 1)) }))

/-- The Port B arbiter with orders in the slots' places. The lowest eligible one goes out before the down queue's head, unless
the priority is ROTATING, it is FORWARD's turn and that head is eligible; a poll comes first while the burst count is below 2.
Where no slot order is granted the grant is what it would be without them. In TRANSPARENT and MONITOR the order goes out
unchecked; in GUARDED it goes out when its check forwards it, stays unsent while the check holds it, and leaves its place when
the check rejects it, its step order kept (log entry 35). ORDER FORWARDED is written once for an order, also across modes (log
entry 18). -/
def Obligations.PortBGrantsSlotOrders : Prop :=
  ∀ s : State, s.powered = true → (s.link .b).tx = none →
    let eligible := fun j : SlotId => ∃ o, s.order j = some o ∧ o.begun = false ∧
      (s.mgmt.mode = .guarded → checkOrder (.slot j) o.frame s ≠ .hold)
    let forward := ∃ f, s.portA.down.head? = some f ∧
      ¬ (frameKind f = 17 ∧ 2 ≤ (framePayload f).length ∧ s.mgmt.mode = .guarded ∧ s.freePlaces ≤ s.claimed)
    let forwardFirst := s.mgmt.config.rotating = true ∧ s.portB.turnForward = true ∧ forward
    let alone : State := { s with portB := { s.portB with orders := ⟨none, none, none, none⟩ } }
    ((∀ j, ¬ eligible j) ∨ forwardFirst ∨ (s.scan.pollList ≠ [] ∧ s.portB.burst < 2) →
      ∃ t, exec .portBGrant alone = .next t ∧
        exec .portBGrant s = .next { t with portB := { t.portB with orders := s.portB.orders } }) ∧
    ∀ (k : SlotId) (o : SlotOrder), s.order k = some o → eligible k → (∀ j, j < k → ¬ eligible j) → ¬ forwardFirst →
      (s.scan.pollList = [] ∨ 2 ≤ s.portB.burst) → isFullOrder o.frame = true →
      let granted : State := { s with
        portB := { s.portB with
          burst := 0, turnForward := if s.mgmt.config.rotating then true else s.portB.turnForward } }
      let sent := fun (u : State) (logged : Bool) =>
        (u.setOrder k (some { o with begun := true, logged := logged })).sends .b (Tx.fresh (.slot k) o.frame)
      (s.mgmt.mode = .transparent → exec .portBGrant s = .next (sent granted o.logged)) ∧
      (s.mgmt.mode = .monitor ∨ (s.mgmt.mode = .guarded ∧ checkOrder (.slot k) o.frame s = .forward) →
        exec .portBGrant s =
          .next (sent (if o.logged then granted else logForwarded (.slot k) o.frame granted) true)) ∧
      ∀ reason run slot, s.mgmt.mode = .guarded → checkOrder (.slot k) o.frame s = .reject reason run slot →
        exec .portBGrant s = exec (.slotOrderPlaced k.val)
          { granted.setOrder k none with
            log := s.logWith (s.record .orderRejected run (orderPoint o.frame s) slot
              (reason * 256 + byteAt (framePayload o.frame) 1)) }

/-- The end of a transmission starts the wait for the reply and sends the replies owed; WAIT, or no reply in 10 ms, refuses the
attempt; another byte is ignored; a refused telegram is repeated with the same bytes, on Port B where no check is due; a reply
that the port does not await, of a telegram in any other phase or of none, changes nothing. The 16th refusal discards the
telegram: the port is free, PORT STALL is set, and it leaves its source as Table 4-4 states; the discard is a row of its own (log
entry 36). The discard of a RESTART's answer brings the warm restart, with the straps as they stand (log entry 31); the discard of
a slot's order makes a QUEUED step order LOST (log entry 26) and lets an order that awaits the place of a slot in RUNNING be
placed at once (log entry 44). -/
def Obligations.RefusedAttemptsEndOrRepeat : Prop :=
  (∀ (p : Port) (t : Tx) (s : State),
    (s.holds p t .sending = true →
      exec (.transmissionEnd p) s = .next (s.setLink p { s.link p with
        tx := some { t with phase := .awaiting }
        wire := (s.link p).wire ++ (s.link p).deferred.map Wire.reply
        deferred := [] })) ∧
    (s.powered = true → (∀ u, (s.link p).tx = some u → u.phase ≠ .awaiting) →
      (∀ b, exec (.linkReply p b) s = .next s) ∧ exec (.replyTimeout p) s = .next s) ∧
    (s.holds p t .awaiting = true →
      exec (.linkReply p .wait) s =
        .next (s.setLink p { s.link p with tx := some { t with phase := .refused, refusals := t.refusals + 1 } }) ∧
      exec (.replyTimeout p) s = exec (.linkReply p .wait) s ∧
      exec (.linkReply p .other) s = .next s) ∧
    (s.holds p t .refused = true → t.refusals < 16 →
      (p = .a ∨ s.mgmt.mode ≠ .guarded ∨ isFullOrder t.frame = false) →
      exec (.repeatTelegram p) s = .next (s.sends p t))) ∧
  ∀ (p : Port) (t : Tx) (s : State), s.holds p t .refused = true → s.inputSettled = true →
    (t.refusals < 16 → exec (.telegramDiscard p) s = .next s) ∧
    (16 ≤ t.refusals →
      let freed := raise 4 (s.frees p)
      (t.source = .up → exec (.telegramDiscard p) s = .next (freed.setUp s.portB.up.tail)) ∧
      (t.source = .down → exec (.telegramDiscard p) s = .next (freed.setDown s.portA.down.tail)) ∧
      (t.source = .poll ∨ t.source = .alert → exec (.telegramDiscard p) s = .next freed) ∧
      (∀ a rest, t.source = .answer → s.portA.answers = a :: rest →
        (a.restart = false → exec (.telegramDiscard p) s = .next (freed.setAnswers rest)) ∧
        (a.restart = true →
          exec (.telegramDiscard p) s = exec (.warmRestart s.lines.straps) (freed.setAnswers rest))) ∧
      ∀ k, t.source = .slot k →
        exec (.telegramDiscard p) s = exec (.slotOrderPlaced k.val)
          ((freed.setOrder k none).updSlot k (fun r =>
            { r with order := if r.order = .queued then .lost else r.order })))

/-- ACCEPT delivers a telegram: the port is free and the telegram leaves its source. The answer of a RESTART brings the warm
restart, with the straps as they stand (log entry 31). -/
def Obligations.AcceptDeliversTheTelegram : Prop :=
  ∀ (p : Port) (t : Tx) (s : State), s.holds p t .awaiting = true → s.inputSettled = true →
    (t.source = .up → exec (.linkReply p .accept) s = .next ((s.frees p).setUp s.portB.up.tail)) ∧
    (t.source = .poll ∨ t.source = .alert → exec (.linkReply p .accept) s = .next (s.frees p)) ∧
    (t.source = .down → isFullOrder t.frame = false →
      exec (.linkReply p .accept) s = .next ((s.frees p).setDown s.portA.down.tail)) ∧
    ∀ a rest, t.source = .answer → s.portA.answers = a :: rest →
      (a.restart = false → exec (.linkReply p .accept) s = .next ((s.frees p).setAnswers rest)) ∧
      (a.restart = true →
        exec (.linkReply p .accept) s =
          exec (.warmRestart s.lines.straps) ((s.frees p).setAnswers rest))

/-- The delivery of a VALVE ORDER, in MONITOR and GUARDED: the expected order of its valve's record, or of every valve's for a
broadcast, becomes what Table 5-3 states, and no other record changes; a telegram to a node without a valve, or delivered in
TRANSPARENT, changes none. The delivery of a slot's order frees its place: the current step's own order becomes DELIVERED, and the
step completes when the valve is already in the target position; an order that awaited the place is placed at once. A slot that is
not in RUNNING keeps its step order (log entry 44). -/
def Obligations.DeliveredOrderIsExpected : Prop :=
  ∀ (t : Tx) (s : State), s.holds .b t .awaiting = true → s.inputSettled = true → s.RecordsFollowMap →
    isFullOrder t.frame = true →
    let action := byteAt (framePayload t.frame) 0
    let expects := fun (orig : Originator) (v : ValveRec) (travel : Nat) => { v with
      expected :=
        if action = 1 then (if v.state = .opened then none else some ⟨.opened, travel, orig⟩)
        else if action = 2 then (if v.state = .closed then none else some ⟨.closed, travel, orig⟩)
        else if action = 3 then none
        else v.expected }
    let left := (s.frees .b).setDown s.portA.down.tail
    (t.source = .down →
      (s.mgmt.mode = .transparent ∨ (frameDest t.frame ≠ 127 ∧ valveOfNode s.map (frameDest t.frame) = none) →
        exec (.linkReply .b .accept) s = .next left) ∧
      (s.mgmt.mode ≠ .transparent → frameDest t.frame = 127 →
        ∃ u, exec (.linkReply .b .accept) s = .next u ∧ u = left.setValves u.interlock.valves ∧
          (∀ q part, valvePart s.map q = some part →
            u.valve q = (s.valve q).map (fun v => expects .control v part.travel)) ∧
          u.interlock.valves.map ValveRec.point = s.interlock.valves.map ValveRec.point) ∧
      ∀ p part, s.mgmt.mode ≠ .transparent → frameDest t.frame ≠ 127 →
        valveOfNode s.map (frameDest t.frame) = some p → valvePart s.map p = some part →
        exec (.linkReply .b .accept) s = .next (left.updValve p (fun v => expects .control v part.travel))) ∧
    ∀ (k : SlotId) (p : Nat) (part : ValvePart), t.source = .slot k → s.mgmt.mode ≠ .transparent →
      frameDest t.frame ≠ 127 → valveOfNode s.map (frameDest t.frame) = some p → valvePart s.map p = some part →
      let base := ((s.frees .b).setOrder k none).updValve p (fun v => expects (.slot k) v part.travel)
      let delivered := base.setSlot k { s.slot k with order := .delivered }
      let reached := fun o : StepRec => ∃ q, o.operand = some q ∧
        ((o.action = .openValve ∧ s.believed q .opened = true) ∨ (o.action = .closeValve ∧ s.believed q .closed = true))
      (¬ ((s.slot k).state = .running ∧ (s.slot k).order = .queued) →
        exec (.linkReply .b .accept) s = exec (.slotOrderPlaced k.val) base) ∧
      ∀ i o, (s.slot k).state = .running → (s.slot k).order = .queued → (s.slot k).step = some i → s.stepAt i = some o →
        (¬ reached o → exec (.linkReply .b .accept) s = .next delivered) ∧
        (reached o → exec (.linkReply .b .accept) s = .next (startStep k (i + 1) delivered))

/-- The repeat of a checked order in GUARDED. A control-unit order without a held place waits for one, a request in service
claiming a place first (log entry 19); with a place, held or free, its check is made anew: forwarded, it is sent with the place
held; rejected, it leaves the down queue and its REJECT fills the place. A repeat that waits when the mode needs no place any more
goes out (log entry 27). A slot's order is checked anew: forwarded, it is sent; held, it returns to waiting and the port is free;
rejected, it leaves its place, the step order kept (log entry 35). An order that awaits its slot's place, whatever order stood
there (log entry 13), is placed when the place is empty, for a slot in RUNNING alone (log entry 44): within the delivery, discard
or rejection that emptied it, and by its row where it is still due (log entry 36). -/
def Obligations.WaitingOrdersTakeTheirPlace : Prop :=
  (∀ (t : Tx) (s : State), t.source = .down →
    let checked := fun row : Instr =>
      (checkOrder .control t.frame s = .forward →
        exec row s = .next ((if t.logged then s else logForwarded .control t.frame s).sends .b
          { t with placeHeld := true, logged := true })) ∧
      ∀ reason run slot, checkOrder .control t.frame s = .reject reason run slot →
        exec row s = .next { s with
          portA := { s.portA with
            down := s.portA.down.tail
            answers := s.portA.answers ++
              [{ frame := mkFrame (frameSource t.frame) (s.lines.nodeNumber.getD 0) 49 (frameTag t.frame)
                   [byte (byteAt (framePayload t.frame) 1), byte (frameDest t.frame), byte reason]
                 restart := false }] }
          portB := { s.portB with link := { s.portB.link with tx := none } }
          log := s.logWith (s.record .orderRejected run (orderPoint t.frame s) slot
            (reason * 256 + byteAt (framePayload t.frame) 1)) }
    (s.mgmt.mode = .guarded → isFullOrder t.frame = true →
      (s.holds .b t .refused = true → t.refusals < 16 →
        (t.placeHeld = false → s.freePlaces ≤ s.claimed →
          exec (.repeatTelegram .b) s =
            .next (s.setLink .b { s.link .b with tx := some { t with phase := .waitingPlace } })) ∧
        (t.placeHeld = true ∨ s.claimed < s.freePlaces → checked (.repeatTelegram .b))) ∧
      (s.holds .b t .waitingPlace = true →
        exec (.repeatTelegram .b) s = .next s ∧
        (s.freePlaces ≤ s.claimed → exec .repeatPlaceTaken s = .next s) ∧
        (s.claimed < s.freePlaces → checked .repeatPlaceTaken))) ∧
    (s.mgmt.mode ≠ .guarded → s.holds .b t .waitingPlace = true →
      exec (.repeatTelegram .b) s = .next (s.sends .b t) ∧ exec .repeatPlaceTaken s = .next (s.sends .b t))) ∧
  (∀ (k : SlotId) (t : Tx) (o : SlotOrder) (s : State), s.mgmt.mode = .guarded → s.holds .b t .refused = true →
    t.refusals < 16 → t.source = .slot k → s.order k = some o → o.frame = t.frame → isFullOrder t.frame = true →
    (checkOrder (.slot k) t.frame s = .forward →
      exec (.repeatTelegram .b) s =
        .next (((if o.logged then s else logForwarded (.slot k) t.frame s).setOrder k
          (some { o with begun := true, logged := true })).sends .b t)) ∧
    (checkOrder (.slot k) t.frame s = .hold →
      exec (.repeatTelegram .b) s = .next ((s.setOrder k (some { o with begun := false })).frees .b)) ∧
    ∀ reason run slot, checkOrder (.slot k) t.frame s = .reject reason run slot →
      exec (.repeatTelegram .b) s = exec (.slotOrderPlaced k.val)
        { (s.frees .b).setOrder k none with
          log := s.logWith (s.record .orderRejected run (orderPoint t.frame s) slot
            (reason * 256 + byteAt (framePayload t.frame) 1)) }) ∧
  ∀ (k : SlotId) (s : State), s.powered = true →
    ((s.slot k).state = .running → (s.slot k).order = .awaitingPlace → s.order k = none →
      ∃ f, exec (.slotOrderPlaced k.val) s =
        .next ((s.setOrder k (some { frame := f, begun := false, logged := false })).setSlot k
          { s.slot k with order := .queued }) ∧
        frameKind f = 17 ∧ frameTag f = byte k.val ∧
        (∀ n, s.lines.nodeNumber = some n → n ≤ 126 → frameSource f = n) ∧
        ∀ p i r, (s.slot k).step = some i → i ≤ 127 → s.stepAt i = some r → r.operand = some p →
          frameDest f = (((s.map[p]?).bind Point.node).getD 0) % 256 ∧
          framePayload f = [if r.action = .openValve then 1#8 else 2#8, byte (128 + i)]) ∧
    (¬((s.slot k).state = .running ∧ (s.slot k).order = .awaitingPlace ∧ s.order k = none) →
      exec (.slotOrderPlaced k.val) s = .next s)

/-! ### The second event -/

/-- SECOND_EVENT takes the part of each block, in the order of its operand (log entry 3), and then makes the answer of a commit
it has applied. It increments the section clock, which wraps; in TRANSPARENT with no commit pending nothing else happens. -/
def Obligations.SecondEventTicksTheClock : Prop :=
  ∀ (order : List SecondWork) (s : State), s.powered = true → SecondWork.wf order = true →
    (∃ t, exec (.secondEvent order) s = .next t ∧ t.tracker.clock = s.tracker.clock + 1#32) ∧
    exec (.secondEvent order) s = exec .commitAnswer (order.foldl
      (fun u w => match w with
        | .tracker => tickTracker u
        | .holdOff => tickHoldOff u
        | .travel => tickTravel u
        | .scan => tickScan u
        | .slots => tickSlots u) s) ∧
    (s.mgmt.mode = .transparent → s.tables.pendingCommit = none →
      (∀ r status data, s.mgmt.service ≠ some ⟨r, .commitApplied status data⟩) →
      exec (.secondEvent order) s =
        .next { s with tracker := { s.tracker with clock := s.tracker.clock + 1#32 } })

/-- A pending commit at a second event, in every mode. A shadow that fails validation leaves both copies and answers INVALID
TABLE; one that passes becomes the active copy, the derived records or the bands of the runs follow, and the answer carries the
counts. Where the Run Tracker's part is taken first, the rest of the second event is that of a controller whose commit is already
applied; where a Class Table commit meets slots that run, the part of the slots before it can change which classes are in use, so
that case is stated for that order alone (log entry 3). Without a free place the answer waits, and COMMIT_ANSWER makes it when
one is free. -/
def Obligations.CommitAppliesAtSecondEvent : Prop :=
  (∀ (order : List SecondWork) (id : TableId) (r : Request) (s : State), s.powered = true → SecondWork.wf order = true →
    s.tables.pendingCommit = some id → s.mgmt.service = some ⟨r, .commitTaken⟩ →
    let shadow := s.tables.shadow
    let active := s.tables.active
    let after : State := { s with
      tables := { s.tables with
        pendingCommit := none
        active := if s.commitError id ≠ none then active else match id with
          | .lineMap => { active with lineMap := shadow.lineMap }
          | .classes => { active with classes := shadow.classes }
          | .sequence => { active with seq := shadow.seq } } }
    let clamped := { after with
      tracker := { s.tracker with runs := s.tracker.runs.map (fun x =>
        { x with band := max ((after.classOf x.cls).band0 * 1000) (min ((after.classOf x.cls).bandMax * 1000) x.band) }) } }
    let derived := if s.commitError id ≠ none then after else match id with
      | .lineMap => rebuildDerived after
      | .classes => clamped
      | .sequence => after
    let status := if s.commitError id = none then 0 else 10
    let data : List Byte := match s.commitError id with
      | some (code, index) => [byte code, byte index]
      | none => match id with
        | .lineMap => [0#8, byte shadow.lineMap.length, byte (supervisedNodes shadow.lineMap).length]
        | .classes => [1#8, byte (shadow.classes.filter Option.isSome).length, 0#8]
        | .sequence => [2#8, byte (shadow.seq.programs.filter Option.isSome).length,
            byte (shadow.seq.steps.filter Option.isSome).length]
    ((∀ c ∈ shadow.classes, ∀ x, c = some x → x.band0 ≤ x.bandMax) → order.head? = some .tracker →
      exec (.secondEvent order) s =
        exec (.secondEvent order) { derived with
          mgmt := { s.mgmt with service := some ⟨r, .commitApplied status data⟩ } }) ∧
    (s.mgmt.waiting.elim true Request.known = true → r.payload = [15#8, byte id.code] → 0 < s.freePlaces →
      (id ≠ .classes ∨ s.mgmt.mode ≠ .guarded →
        ∃ u, exec (.secondEvent order) s = .next u ∧ u.tables = after.tables ∧
          u.portA.answers = s.portA.answers ++
            [{ frame := mkFrame r.source (s.lines.nodeNumber.getD 0) 65 r.tag ([15#8, byte status] ++ data),
               restart := false }] ∧
          u.mgmt.service = s.mgmt.waiting.map (fun w => { request := w, phase := .unserved }) ∧
          u.mgmt.waiting = none) ∧
      (s.mgmt.mode = .transparent → (∀ c ∈ shadow.classes, ∀ x, c = some x → x.band0 ≤ x.bandMax) →
        exec (.secondEvent order) s =
          .next (({ derived with
            tracker := { derived.tracker with clock := s.tracker.clock + 1#32 } } : State).answered r 15 status data)))) ∧
  ∀ (r : Request) (code status : Nat) (data args : List Byte) (s : State), s.powered = true →
    s.mgmt.service = some ⟨r, .commitApplied status data⟩ → r.payload = byte code :: args → code ≤ 255 →
    s.mgmt.waiting.elim true Request.known = true →
    (s.freePlaces = 0 → exec .commitAnswer s = .next s) ∧
    (0 < s.freePlaces → exec .commitAnswer s = .next (s.answered r code status data))

/-- Validation of the three tables: it passes exactly when no check fails, and otherwise reports the first check that fails, in
the order of its table, and the lowest index at which it fails. So a Line Map that passed has a TRAP at chainage 0 first, the
one END last, rising chainages, node numbers without conflict, and an effective flow source, a METER, for every stretch. -/
def Obligations.ValidatedMapIsSound : Prop :=
  let reports := fun (v : Option (Nat × Nat)) (codes : List Nat) (fails : Nat → Nat → Prop) =>
    (v = none ↔ ∀ c ∈ codes, ∀ i, i < 256 → ¬ fails c i) ∧
    ∀ c i, v = some (c, i) ↔
      (c ∈ codes ∧ fails c i) ∧ (∀ j, j < i → ¬ fails c j) ∧ ∀ b ∈ codes, b < c → ∀ j, j < 256 → ¬ fails b j
  let isAction := fun (t : SeqTable) (a : Action) (i : Nat) => (t.steps.getD i none).elim false (fun o => o.action == a)
  let trapPoint := fun (m : List Point) (p : Program) =>
    ¬ ∃ x, m[p.trap]? = some x ∧ ∃ role, x.part = .trap role ∧
      (p.kind = .launch → role ≠ .receiver) ∧ (p.kind = .receive → role ≠ .launcher)
  let operand := fun (m : List Point) (t : SeqTable) (p : Program) =>
    ∃ q, q < p.count ∧ ∃ o, t.steps.getD (p.first + q) none = some o ∧
      let needs := fun ok : Point → Bool => ¬ ∃ x, o.operand.bind (fun i => m[i]?) = some x ∧ ok x = true
      (((o.action = .openValve ∨ o.action = .closeValve ∨ o.action = .verifyOpen ∨ o.action = .verifyClosed) ∧
          needs Point.isValve) ∨
        (o.action = .awaitPassage ∧ needs Point.isDetector) ∨ (o.action = .awaitApproach ∧ needs (fun _ => true)))
  (∀ (t : SeqTable) (m : List Point), m.length ≤ 64 → reports (validateMap t m) [1, 2, 3, 4, 5, 6, 7, 8, 9] (fun c i =>
    (c = 1 ∧ m.length = 0 ∧ i = 255) ∨
    (c = 2 ∧ i = 0 ∧ ∃ p, m[0]? = some p ∧ ¬ (p.isTrap = true ∧ p.chainage = 0)) ∨
    (c = 3 ∧ ((i + 1 < m.length ∧ (m[i]?).any Point.isEnd = true) ∨ (i + 1 = m.length ∧ m.any Point.isEnd = false))) ∨
    (c = 4 ∧ 0 < i ∧ ∃ p, m[i - 1]? = some p ∧ ∃ q, m[i]? = some q ∧ q.chainage ≤ p.chainage) ∨
    (c = 5 ∧ ∃ q, m[i]? = some q ∧ ∃ p ∈ m.take i, p.node ≠ none ∧ p.node = q.node ∧
      ((p.isValve = true ∧ q.isValve = true) ∨ (p.isMeter = true ∧ q.isMeter = true) ∨
        ∃ ch h h', p.part = .detector ch h ∧ q.part = .detector ch h')) ∨
    (c = 6 ∧ i < m.length ∧ ((i = 0 ∧ (m[i]?).bind (fun p => p.stretch.bind Stretch.source) = none) ∨
      ∃ f, (m[i]?).bind (fun p => p.stretch.bind Stretch.source) = some f ∧ (m[f]?).any Point.isMeter = false)) ∨
    (c = 7 ∧ ∃ v, valvePart m i = some v ∧ v.role ≠ .mainline ∧
      ¬ ∃ x, v.trapRef.bind (fun r => m[r]?) = some x ∧ x.isTrap = true) ∨
    (c = 8 ∧ i < m.length ∧ 64 < (supervisedNodes (m.take (i + 1))).length) ∨
    (c = 9 ∧ i < 16 ∧ ∃ p, t.programs.getD i none = some p ∧ (trapPoint m p ∨ operand m t p)))) ∧
  (∀ (s : State) (cs : List (Option PigClass)), reports (validateClasses s cs) [1, 10] (fun c i =>
    (c = 1 ∧ cs.any Option.isSome = false ∧ i = 255) ∨
    (c = 10 ∧ i < 8 ∧ cs.getD i none = none ∧ ((∃ r ∈ s.tracker.runs, r.cls = i) ∨
      ∃ k, (s.slot k).state ≠ .idle ∧ ((s.slot k).cls = i ∨ ∃ ch, (s.slot k).chain = some ch ∧ ch.cls = i))))) ∧
  (∀ (m : List Point) (t : SeqTable), reports (validateSequence m t) [11, 12, 13, 14, 15] (fun c i =>
    i < 16 ∧ ∃ p, t.programs.getD i none = some p ∧
      let count := fun a : Action => ((List.range p.count).filter (fun q => isAction t a (p.first + q))).length
      ((c = 11 ∧ (127 < p.first + p.count - 1 ∨ ∃ q, q < p.count ∧ t.steps.getD (p.first + q) none = none)) ∨
        (c = 12 ∧ (p.count = 0 ∨ isAction t .endCycle (p.first + (p.count - 1)) = false ∨
          ∃ q, q < p.count - 1 ∧ isAction t .endCycle (p.first + q) = true)) ∨
        (c = 13 ∧ trapPoint m p) ∨ (c = 14 ∧ operand m t p) ∨
        (c = 15 ∧ ((p.kind = .launch ∧ ¬ (count .insertRun = 1 ∧ count .removeRun = 0)) ∨
          (p.kind = .receive ∧ ¬ (count .removeRun = 1 ∧ count .insertRun = 0))))))) ∧
  ∀ (t : SeqTable) (m : List Point), validateMap t m = none →
    (∃ p, m[0]? = some p ∧ p.isTrap = true ∧ p.chainage = 0) ∧
    (∀ i p, m[i]? = some p → (p.isEnd = true ↔ i + 1 = m.length)) ∧
    m.Pairwise (fun a b => a.chainage < b.chainage) ∧
    m.Pairwise (fun a b => nodesConflict a b = false) ∧
    (∀ j, j + 1 < m.length → ∃ f p, flowSource m j = some f ∧ m[f]? = some p ∧ p.isMeter = true) ∧
    (supervisedNodes m).length ≤ 64

/-- Steps 2 to 7 of an advance: the stretch and its effective flow source, what Table 2-4 takes of the flow record, flow
velocity, pig speed with its limit, the clamp to the leader, and the band. -/
def Obligations.AdvanceArithmetic : Prop :=
  (∀ (m : List Point) (j pos : Nat), m.Pairwise (fun a b => a.chainage < b.chainage) → j + 1 < m.length →
    chainMm m j ≤ pos → (j + 2 < m.length → pos < chainMm m (j + 1)) → stretchIndex m pos = j) ∧
  (∀ (m : List Point) (j : Nat),
    let own := fun i : Nat => (m[i]?).bind (fun p => p.stretch.bind Stretch.source)
    flowSource m 0 = own 0 ∧ flowSource m (j + 1) = if own (j + 1) = none then flowSource m j else own (j + 1)) ∧
  (∀ f : FlowRec,
    (f.state = .none → flowTaken (some f) = ⟨0, anNoflow, 1⟩) ∧
    (f.state = .live → f.rev = false → flowTaken (some f) = ⟨f.q, 0#11, 1⟩) ∧
    (f.state = .live → f.rev = true → flowTaken (some f) = ⟨0, anReverse, 1⟩) ∧
    (f.state = .stale → f.rev = false → flowTaken (some f) = ⟨f.q, anNoflow, 2⟩) ∧
    (f.state = .stale → f.rev = true → flowTaken (some f) = ⟨0, anNoflow ||| anReverse, 2⟩)) ∧
  ∀ (taken : FlowTaken) (st : Stretch) (c : PigClass) (leader : Option Nat) (r : Run),
    let v := taken.q * 10000 / (36 * st.bore)
    let u := min (v * r.slip / 1000) st.umax
    let a := moveRun taken st c leader r
    (taken.q ≤ 65000 → 100 ≤ st.bore → v ≤ 180555) ∧
    a.raised =
      taken.raised ||| (if st.umax < v * r.slip / 1000 then anOverspeed else 0#11) |||
        (if leader.elim false (fun l => decide (l < r.position + u)) then anBunch else 0#11) ∧
    a.run.flowDist = min 4000000000 (r.flowDist + v) ∧
    (leader = none → a.run.position = r.position + u ∧ a.run.speed = u) ∧
    (∀ l, leader = some l → r.position ≤ l →
      a.run.position = min (r.position + u) l ∧ r.position + a.run.speed = a.run.position) ∧
    (a.run.speed = 0 → a.run.band = r.band) ∧
    (0 < a.run.speed →
      a.run.band = min (c.bandMax * 1000) (r.band + a.run.speed * (c.growth * taken.factor) / 1000)) ∧
    a.run.id = r.id ∧ a.run.cls = r.cls ∧ a.run.slip = r.slip ∧ a.run.lastFix = r.lastFix ∧ a.run.bound = r.bound

/-- A lone run that is not LOST, at a second event in MONITOR, or in GUARDED with every slot IDLE, by the flow record of its
stretch as the same event has aged it; at the END chainage it leaves as exited. The Run Tracker's part in full: the miss check
over the detectors that the run has passed by more than its band, the zone check, the anomaly sets with the alarm mask, the
records in their order, the conditions, and the state of a run that stands. -/
def Obligations.LoneRunAdvances : Prop :=
  (∀ (order : List SecondWork) (r : Run) (s : State), s.powered = true → SecondWork.wf order = true →
    (s.mgmt.mode = .monitor ∨ (s.mgmt.mode = .guarded ∧ ∀ k, (s.slot k).state = .idle)) →
    s.tables.pendingCommit = none → s.tracker.runs = [r] → r.state ≠ .lost →
    let a := moveRun (flowTaken ((ageFlows s).flowFor r.position)) (s.stretchOf r.position) (s.classOf r.cls) none r
    (a.run.position < endMm s.map →
      ∃ t x, exec (.secondEvent order) s = .next t ∧ t.tracker.runs = [x] ∧ x.position = a.run.position ∧
        x.speed = a.run.speed ∧ x.band = a.run.band ∧ x.flowDist = a.run.flowDist ∧ x.slip = r.slip ∧ x.id = r.id ∧
        x.cls = r.cls ∧ x.lastFix = r.lastFix ∧ x.bound = r.bound ∧ x.insertedAt = r.insertedAt ∧
        (x.halted = if a.run.speed = 0 then min 65535 (r.halted + 1) else 0) ∧
        (x.state = .lost ∨ x.state = (haltRun (s.classOf r.cls) a).run.state) ∧
        t.tracker.exited = s.tracker.exited) ∧
    (endMm s.map ≤ a.run.position →
      ∃ t, exec (.secondEvent order) s = .next t ∧ t.tracker.runs = [] ∧
        t.tracker.exited = s.tracker.exited + 1#32)) ∧
  ∀ (r : Run) (s : State), s.mgmt.mode ≠ .transparent → s.tables.pendingCommit = none → s.tracker.runs = [r] →
    r.state ≠ .lost → r.misses ≤ 1 → s.map.Pairwise (fun a b => a.chainage < b.chainage) →
    let a := haltRun (s.classOf r.cls)
      (moveRun (flowTaken ((ageFlows s).flowFor r.position)) (s.stretchOf r.position) (s.classOf r.cls) none r)
    let pos := a.run.position
    let ahead := (detectorIndices s.map).filter (fun d => r.nextDet.elim false (fun n => n ≤ d))
    let missed := ((ahead.filter (fun d => chainMm s.map d + a.run.band < pos)).filter s.covered).take (2 - r.misses)
    let lost := 0 < missed.length ∧ r.misses + missed.length = 2
    let shuts := fun i : Nat => ∃ part, valvePart s.map i = some part ∧ part.role = .mainline ∧
      (chainMm s.map i - part.approach * 1000 ≤ pos ∧ pos ≤ chainMm s.map i + part.clearance * 1000) ∧
      s.believed i .opened = false
    let ticked := { s with tracker := { s.tracker with clock := s.tracker.clock + 1#32 } }
    let mode := s.mgmt.config.logMode
    let mask := s.mgmt.config.alarmMask
    let t := tickTracker s
    ∃ zone : Option Nat,
      (∀ i, zone = some i → shuts i ∧ ∀ j, j < i → ¬ shuts j) ∧ (zone = none → ∀ i, i < s.map.length → ¬ shuts i) ∧
      (let raised := a.raised ||| (if missed = [] then 0#11 else anMiss) ||| (if lost then anLost else 0#11) |||
         (if zone ≠ none ∧ zone ≠ r.zoneValve then anZone else 0#11)
       let alarm := raised &&& mask
       let x := { a.run with
         misses := r.misses + missed.length
         nextDet := if lost then ahead.find? (fun d => missed.getLast?.elim false (fun l => l < d))
           else ahead.find? (fun d => pos ≤ chainMm s.map d + a.run.band)
         state := if lost then .lost else a.run.state
         zoneValve := zone, current := raised
         accrued := r.accrued ||| (raised &&& ~~~mask), alarmed := r.alarmed ||| alarm }
       let told := (List.range missed.length).foldl (fun g j => g.offer mode
         (ticked.record .detectorMissed r.id (missed.getD j 0) (slotNumber r.bound) (r.misses + j + 1))) s.log
       let g := if lost then told.offer mode
           (ticked.record .runLost r.id (missed.getLast?.getD 0) (slotNumber r.bound) r.lastFix) else told
       let h := if alarm = 0#11 then g else g.offer mode
         (ticked.record .anomalyAlarm r.id (if raised &&& anZone = 0#11 then 255 else zone.getD 255) (slotNumber r.bound)
           alarm.toNat)
       let freezes := alarm ≠ 0#11 ∧ s.mgmt.config.freezeOnAlarm = true ∧ mode ≠ .off ∧ s.log.frozen = false
       let kept := if freezes then { h with frozen := true } else h
       t.mgmt = { s.mgmt with conditions := s.mgmt.conditions ||| (if alarm = 0#11 then 0#13 else condBit 0) |||
         (if freezes then condBit 11 else 0#13) } ∧
       t.tracker.flows = s.tracker.flows.map FlowRec.aged ∧ t.tracker.clock = s.tracker.clock + 1#32 ∧
       (pos < endMm s.map → t.tracker.runs = [x] ∧ t.seq = s.seq ∧ t.log = kept) ∧
       (endMm s.map ≤ pos →
         t.tracker.runs = [] ∧ t.tracker.exited = s.tracker.exited + 1#32 ∧
         (∀ k, t.slot k = { s.slot k with
           bound := if (s.slot k).bound = some r.id then none else (s.slot k).bound }) ∧
         t.log = kept.offer mode
           (ticked.record .runExited r.id (s.map.length - 1) (slotNumber r.bound) 0)) ∧
       t.interlock = s.interlock ∧ t.matcher = s.matcher ∧ t.scan = s.scan ∧ t.tables = s.tables ∧ t.lines = s.lines)

/-- Step 8 of an advance: the halted count and the stall. The STALL row is the same event for one run, a run event of its own:
the advance now due, with the flow records aged and the runs ahead advanced, finds a MOVING or HALTED run standing and brings its
halted seconds to the limit of its class; otherwise the row does nothing (log entry 4). The anomaly sets then follow the alarm
mask. -/
def Obligations.StandingRunStalls : Prop :=
  (∀ (c : PigClass) (a : Advance),
    let h := min 65535 (a.run.halted + 1)
    (a.run.speed = 0 → a.run.state ≠ .stalled → h = c.stallLimit →
      haltRun c a = { run := { a.run with halted := h, state := .stalled }, raised := a.raised ||| anStall }) ∧
    (a.run.speed = 0 → (a.run.state = .stalled ∨ h ≠ c.stallLimit) →
      haltRun c a =
        { run := { a.run with halted := h, state := if a.run.state = .moving then .halted else a.run.state }
          raised := a.raised }) ∧
    (0 < a.run.speed → haltRun c a = { run := { a.run with halted := 0, state := .moving }, raised := a.raised })) ∧
  (∀ (id : Nat) (s : State), s.powered = true → 1 ≤ id → id ≤ 255 →
    (s.mgmt.mode = .transparent ∨ s.run id = none ∨ ∃ r, s.run id = some r ∧ (r.state = .stalled ∨ r.state = .lost)) →
    exec (.stall id) s = .next s) ∧
  ∀ (r : Run) (ahead behind : List Run) (s : State), s.powered = true → 1 ≤ r.id → r.id ≤ 255 →
    s.mgmt.mode ≠ .transparent → s.tracker.runs = ahead ++ r :: behind → (s.tracker.runs.map Run.id).Nodup →
    (r.state = .moving ∨ r.state = .halted) →
    let u := (ahead.map Run.id).foldl advanceRun
      { s with tracker := { s.tracker with flows := s.tracker.flows.map FlowRec.aged } }
    let leader := ((u.tracker.runs.takeWhile (fun x => x.id != r.id)).getLast?).map Run.position
    let a := moveRun (flowTaken (u.flowFor r.position)) (s.stretchOf r.position) (s.classOf r.cls) leader r
    let h := min 65535 (r.halted + 1)
    (a.run.speed ≠ 0 ∨ h ≠ (s.classOf r.cls).stallLimit → exec (.stall r.id) s = .next s) ∧
    (a.run.speed = 0 → h = (s.classOf r.cls).stallLimit →
      ∃ t, exec (.stall r.id) s = .next t ∧
        t.tracker.runs = ahead ++ { r with
          halted := h, state := .stalled, current := anStall
          accrued := r.accrued ||| (anStall &&& ~~~s.mgmt.config.alarmMask)
          alarmed := r.alarmed ||| (anStall &&& s.mgmt.config.alarmMask) } :: behind ∧
        (anStall &&& s.mgmt.config.alarmMask = 0#11 → t.log = s.log ∧ t.mgmt = s.mgmt) ∧
        (anStall &&& s.mgmt.config.alarmMask ≠ 0#11 → t.mgmt.conditions.getLsbD 0 = true) ∧
        t.interlock = s.interlock ∧ t.seq = s.seq ∧ t.tracker.flows = s.tracker.flows)

/-- The ageing of a flow record; the part of a second event in the hold-offs, the travel monitor and the scan interval, where
every countdown that runs decreases by one and 0 has its effect; and the expiries of one flow record, one hold-off and one
expected order as rows of their own, each of which acts on its record when its countdown is about to reach 0, and on nothing
otherwise (log entry 4). The VALVE MISMATCH records of one second event are in order of point index (log entry 38). -/
def Obligations.CountdownsExpire : Prop :=
  (∀ f : FlowRec,
    (f.state = .live → 1 < f.age → f.aged = { f with age := f.age - 1 }) ∧
    (f.state = .live → f.age ≤ 1 → f.aged = { f with age := 0, state := .stale }) ∧
    (f.state ≠ .live → f.aged = f)) ∧
  (∀ s : State,
    (s.mgmt.mode = .transparent → tickHoldOff s = s ∧ tickTravel s = s ∧ tickScan s = s) ∧
    (s.mgmt.mode ≠ .transparent →
      tickHoldOff s = { s with matcher :=
        { detectors := s.matcher.detectors.map (fun d => { d with holdOff := if d.holdOff = 0 then 0 else d.holdOff - 1 }) } } ∧
      (s.scan.countdown = 0 → tickScan s = s) ∧
      (2 ≤ s.scan.countdown → tickScan s = { s with scan := { s.scan with countdown := s.scan.countdown - 1 } }) ∧
      (s.scan.countdown = 1 → s.powered = true → exec .roundStart s = .next (tickScan s)) ∧
      ((s.interlock.valves.map ValveRec.point).Nodup →
        let falls := fun v : ValveRec => v.expected.elim false (fun e => e.remaining == 1)
        let t := tickTravel s
        t.interlock.valves = s.interlock.valves.map (fun v =>
          match v.expected with
          | none => v
          | some e =>
            if e.remaining = 0 then v
            else if e.remaining = 1 then { v with suspect := true, expected := none }
            else { v with expected := some { e with remaining := e.remaining - 1 } }) ∧
        t.mgmt = { s.mgmt with
          conditions := if s.interlock.valves.any falls then s.mgmt.conditions ||| condBit 7 else s.mgmt.conditions } ∧
        t.log = s.interlock.valves.foldl
          (fun g v => match v.expected with
            | none => g
            | some e => if e.remaining = 1 then g.offer s.mgmt.config.logMode
                (s.record .valveMismatch 0 v.point e.originator.number (e.target.code * 256 + v.percent)) else g)
          s.log ∧
        t.tracker = s.tracker ∧ t.matcher = s.matcher ∧ t.seq = s.seq ∧ t.scan = s.scan ∧ t.tables = s.tables ∧
        t.portB = s.portB))) ∧
  ∀ (p : Nat) (s : State), s.powered = true → p < 64 → s.mgmt.mode ≠ .transparent →
    (∀ f, s.flow p = some f → f.state = .live →
      ∃ t, exec (.flowStale p) s = .next t ∧
        t.flow p = some (if f.age ≤ 1 then { f with state := .stale, age := 0 } else f) ∧
        (∀ q, q ≠ p → t.flow q = s.flow q) ∧ t.tracker.runs = s.tracker.runs ∧ t.log = s.log ∧ t.mgmt = s.mgmt) ∧
    (∀ d, s.detector p = some d →
      ∃ t, exec (.holdOffExpiry p) s = .next t ∧
        t.detector p = some (if d.holdOff = 1 then { d with holdOff := 0 } else d) ∧
        (∀ q, q ≠ p → t.detector q = s.detector q) ∧ t.tracker = s.tracker ∧ t.log = s.log ∧ t.mgmt = s.mgmt) ∧
    (∀ v e, s.valve p = some v → v.expected = some e →
      (e.remaining ≠ 1 → exec (.valveMismatch p) s = .next s) ∧
      (e.remaining = 1 →
        ∃ t, exec (.valveMismatch p) s = .next t ∧
          t.valve p = some { v with suspect := true, expected := none } ∧ (∀ q, q ≠ p → t.valve q = s.valve q) ∧
          t.mgmt = { s.mgmt with conditions := s.mgmt.conditions ||| condBit 7 } ∧
          t.log = s.logWith (s.record .valveMismatch 0 p e.originator.number (e.target.code * 256 + v.percent)) ∧
          t.tracker = s.tracker ∧ t.seq = s.seq))

/-- The start of a round. Each node that falls silent writes NODE SILENT, with its health and the lowest point that carries it,
and then VALVE STATE CHANGED for each of its valves that changes, in order of record; its detectors are uncovered and its valves
UNKNOWN, and those of other nodes stay. As a row of its own it is taken when the scan interval countdown stands at 1, and the round and the
loading of the countdown are one event (log entry 4). -/
def Obligations.RoundCountsMisses : Prop :=
  ∀ s : State, s.powered = true → s.mgmt.mode ≠ .transparent → s.scan.countdown = 1 → s.RecordsFollowMap →
    let falls := fun r : NodeRec => !r.heard && !r.silent && decide (2 ≤ r.missed)
    let silenced := fun p : Nat => s.scan.nodes.any (fun r => falls r && ((s.map[p]?).bind Point.node == some r.node))
    let offered := fun (g : EventLog) (r : LogRecord) => g.offer s.mgmt.config.logMode r
    let valveLost := fun (g : EventLog) (p : Nat) => (s.valve p).elim g (fun v =>
      if v.state = .unknown ∧ v.location = .unknown then g
      else offered g (s.record .valveStateChanged 0 p (slotNumber v.reserving) (2 * 256 + v.state.code * 16)))
    let nodeLost := fun (g : EventLog) (r : NodeRec) =>
      let lowest := ((List.range s.map.length).find? (fun p => (s.map[p]?).bind Point.node == some r.node)).getD 255
      (pointsOfNode s.map r.node Point.isValve).foldl valveLost
        (offered g (s.record .nodeSilent 0 lowest 255 (r.health.code * 256 + r.node)))
    ∃ t, exec .roundStart s = .next t ∧
      t.scan.countdown = s.mgmt.config.scanInterval ∧ t.scan.pollList = supervisedNodes s.map ∧
      t.scan.nodes = s.scan.nodes.map (fun r =>
        if r.heard then { r with heard := false, missed := 0 }
        else { r with missed := min 3 (r.missed + 1), silent := r.silent || decide (2 ≤ r.missed) }) ∧
      t.mgmt = { s.mgmt with
        conditions := if s.scan.nodes.any falls then s.mgmt.conditions ||| condBit 6 else s.mgmt.conditions } ∧
      t.log = (s.scan.nodes.filter falls).foldl nodeLost s.log ∧
      t.matcher.detectors = s.matcher.detectors.map (fun d => if silenced d.point then { d with covered := false } else d) ∧
      t.interlock.valves = s.interlock.valves.map (fun v =>
        if silenced v.point then { v with state := .unknown, location := .unknown } else v) ∧
      t.tracker = s.tracker ∧ t.seq = s.seq ∧ t.tables = s.tables ∧ t.portB = s.portB ∧ t.lines = s.lines

/-! ### Passages -/

/-- Slip adaptation at a match, with the range it keeps. -/
def Obligations.SlipMovesAQuarter : Prop :=
  ∀ (m : List Point) (pd : Nat) (r : Run),
    let obs := (pd - chainMm m r.lastFix) * 1000 / r.flowDist
    let lim := max 500 (min 1000 obs)
    (r.flowDist = 0 → adaptSlip m pd r = (r.slip, 0#11)) ∧
    (0 < r.flowDist → 500 ≤ r.slip → r.slip ≤ 1000 →
      ((adaptSlip m pd r).1 : Int) = r.slip + ((lim : Int) - r.slip).tdiv 4 ∧
      500 ≤ (adaptSlip m pd r).1 ∧ (adaptSlip m pd r).1 ≤ 1000 ∧
      ((adaptSlip m pd r).2 = if obs < 500 ∨ 1000 < obs then anSlipclamp else 0#11))

/-- A passage with direction REVERSE is only logged; a passage during the hold-off only raises the duplicate count. -/
def Obligations.ReverseAndDuplicatePassages : Prop :=
  ∀ (p : Nat) (payload : List Byte) (d : DetectorRec) (s : State), s.detector p = some d →
    (byteAt payload 2 = 1 →
      let r := s.record .passageOrphan 0 p 255 (1 * 4096 + d.duplicates * 256 + byteAt payload 1)
      takePassage p payload s = ⟨{ s with log := s.logWith r }, none⟩) ∧
    (byteAt payload 2 ≠ 1 → 0 < d.holdOff →
      (takePassage p payload s).run = none ∧
      (takePassage p payload s).state.detector p = some { d with duplicates := min 15 (d.duplicates + 1) } ∧
      (∀ q, q ≠ p → (takePassage p payload s).state.detector q = s.detector q) ∧
      (takePassage p payload s).state =
        { s with matcher := (takePassage p payload s).state.matcher })

/-- A passage taken for matching fixes the foremost candidate: the runs ahead stay, the run takes the fields of Table 3-5 and
the kinds of its tier, and the runs behind that stand above the detector are drawn back to it. The match writes PASSAGE MATCHED
and ends as a run event: the kinds outside the alarm mask accrue, those inside set RUN ALARM and write ANOMALY ALARM after it,
and freeze the log where freeze-on-alarm is on. Without a candidate, outside
the band, or against the order, it is an orphan with its reason. The taking for matching reloads the hold-off and resets the
duplicate count. The hand-off of a match completes the AWAIT PASSAGE step of the run's own slot, or of the lowest slot without a
run that awaits the detector, which binds the run. -/
def Obligations.PassageFixesTheForemostCandidate : Prop :=
  (∀ (p dups count : Nat) (s : State), (s.tracker.runs.map Run.id).Nodup →
    let pd := chainMm s.map p
    let orphaned := fun reason : Nat =>
      { raise 1 s with log := s.logWith (s.record .passageOrphan 0 p 255 (reason * 4096 + dups * 256 + count)) }
    ((∀ r ∈ s.tracker.runs, pd ≤ chainMm s.map r.lastFix) → matchPassage p dups count s = ⟨orphaned 0, none⟩) ∧
    ∀ (ahead : List Run) (r : Run) (behind : List Run), s.tracker.runs = ahead ++ r :: behind →
      (∀ x ∈ ahead, pd ≤ chainMm s.map x.lastFix) → chainMm s.map r.lastFix < pd →
      let far := (r.position - pd) + (pd - r.position)
      (r.state ≠ .lost → 2 * r.band < far → matchPassage p dups count s = ⟨orphaned 2, none⟩) ∧
      ((r.state = .lost ∨ far ≤ 2 * r.band) → (∃ x ∈ behind, pd < chainMm s.map x.lastFix) →
        matchPassage p dups count s = ⟨orphaned 3, none⟩) ∧
      ((r.state = .lost ∨ far ≤ 2 * r.band) → (∀ x ∈ behind, chainMm s.map x.lastFix ≤ pd) →
        let raised := if r.state = .lost then 0#11
          else (adaptSlip s.map pd r).2 ||| (if far ≤ r.band then 0#11 else if r.position < pd then anEarly else anLate)
        let tier := if r.state = .lost then 2 else if far ≤ r.band then 0 else 1
        let mask := s.mgmt.config.alarmMask
        let mode := s.mgmt.config.logMode
        let alarm := raised &&& mask
        let matched := s.logWith
          (s.record .passageMatched r.id p (slotNumber r.bound) (tier * 4096 + dups * 256 + count))
        let logged := if alarm = 0#11 then matched
          else matched.offer mode (s.record .anomalyAlarm r.id 255 (slotNumber r.bound) alarm.toNat)
        let freezes := alarm ≠ 0#11 ∧ s.mgmt.config.freezeOnAlarm = true ∧ mode ≠ .off ∧ s.log.frozen = false
        let t := (matchPassage p dups count s).state
        t.log = (if freezes then { logged with frozen := true } else logged) ∧
        t.mgmt = { s.mgmt with conditions := s.mgmt.conditions ||| (if alarm = 0#11 then 0#13 else condBit 0) |||
          (if freezes then condBit 11 else 0#13) } ∧
        t.seq = s.seq ∧ t.matcher = s.matcher ∧ t.interlock = s.interlock ∧ t.scan = s.scan ∧ t.tables = s.tables ∧
        t.tracker = { s.tracker with runs := t.tracker.runs } ∧ t.portB = s.portB ∧ t.lines = s.lines ∧
        ∃ x, (matchPassage p dups count s).run = some r.id ∧
          t.tracker.runs = ahead ++ x :: behind.map (fun y => if pd < y.position then { y with position := pd } else y) ∧
          x.id = r.id ∧ x.cls = r.cls ∧ x.bound = r.bound ∧ x.zoneValve = r.zoneValve ∧ x.speed = r.speed ∧
          x.origin = r.origin ∧ x.insertedAt = r.insertedAt ∧
          x.position = pd ∧ x.band = (s.classOf r.cls).band0 * 1000 ∧ x.flowDist = 0 ∧ x.lastFix = p ∧
          x.nextDet = nextDetector s.map p ∧ x.misses = 0 ∧ x.halted = 0 ∧ x.state = .moving ∧
          x.slip = (if r.state = .lost then r.slip else (adaptSlip s.map pd r).1) ∧
          x.current = raised ∧ x.accrued = r.accrued ||| (raised &&& ~~~mask) ∧ x.alarmed = r.alarmed ||| alarm)) ∧
  (∀ (p : Nat) (payload : List Byte) (d : DetectorRec) (s : State), s.detector p = some d → d.holdOff = 0 →
    byteAt payload 2 ≠ 1 → ∀ channel hold, detectorPart s.map p = some (channel, hold) →
    ∃ u, takePassage p payload s = matchPassage p d.duplicates (byteAt payload 1) u ∧
      u = { s with matcher := u.matcher } ∧ u.detector p = some { d with holdOff := hold, duplicates := 0 } ∧
      ∀ q, q ≠ p → u.detector q = s.detector q) ∧
  ∀ (p id : Nat) (r : Run) (s : State), s.run id = some r →
    let awaits := fun k : SlotId => (s.slot k).state = .running ∧
      ∃ o, (s.slot k).step.bind s.stepAt = some o ∧ o.action = .awaitPassage ∧ o.operand = some p
    let after := fun k : SlotId => ((s.slot k).step.getD 0) + 1
    (∀ k, r.bound = some k →
      (awaits k → handPassage p id s = startStep k (after k) s) ∧ (¬ awaits k → handPassage p id s = s)) ∧
    (r.bound = none →
      ((∀ k, ¬ (awaits k ∧ (s.slot k).bound = none)) → handPassage p id s = s) ∧
      ∀ k, awaits k → (s.slot k).bound = none → (∀ j, j < k → ¬ (awaits j ∧ (s.slot j).bound = none)) →
        handPassage p id s = startStep k (after k)
          ((s.setSlot k { s.slot k with bound := some id }).updRun id (fun x => { x with bound := some k })))

/-! ### Valves and orders -/

/-- A VALVE STATE report at its valve: the record, VALVE STATE CHANGED, the expected order, and an uncommanded movement (steps 1
to 4); then its hand-over to the Sequence Unit (step 5). A report with control location LOCAL takes over the slot that reserves
the valve while it runs; a report completes the OPEN or CLOSE step whose order is delivered, or the VERIFY step, that its
position meets. Where several slots stand at one valve they are offered it in order of slot number, which the manual does not
state (log entry 15); here at most one does. The SLOT ENDED record of a slot without a step carries 255 (log entry 14). -/
def Obligations.ValveReportUpdatesTheRecord : Prop :=
  (∀ (p : Nat) (payload : List Byte) (v : ValveRec) (s : State), s.valve p = some v →
    let st : ValveState := match byteAt payload 0 with
      | 1 => .opened | 2 => .closed | 3 => .opening | 4 => .closing | 5 => .stopped | _ => .failed
    let loc : Location := if byteAt payload 2 = 0 then .remote else .localControl
    let met := ∃ e, v.expected = some e ∧ ((e.target = .opened ∧ st = .opened) ∨ (e.target = .closed ∧ st = .closed))
    let moves := ((st = .opening ∨ st = .closing) ∧ v.state ≠ st) ∨ (v.state = .opened ∧ st = .closed) ∨
      (v.state = .closed ∧ st = .opened)
    let uncommanded := moves ∧ v.expected = none ∧ loc = .remote
    let t := takeValveReport p payload s
    (∃ w, t.valve p = some w ∧ w.state = st ∧ w.percent = min 100 (byteAt payload 1) ∧ w.location = loc ∧
      w.lastTag = byteAt payload 3 ∧ w.reserving = v.reserving ∧
      (met → w.expected = none ∧ w.suspect = false) ∧ (¬ met → w.expected = v.expected ∧ w.suspect = v.suspect)) ∧
    (∀ q, q ≠ p → t.valve q = s.valve q) ∧
    t.mgmt.conditions =
      (if uncommanded then s.mgmt.conditions ||| condBit 8 else s.mgmt.conditions) ∧
    t.log =
      (let g := if v.state ≠ st ∨ v.location ≠ loc then
          s.logWith (s.record .valveStateChanged 0 p (slotNumber v.reserving) (loc.code * 256 + v.state.code * 16 + st.code))
        else s.log
       if uncommanded then
         g.offer s.mgmt.config.logMode (s.record .uncommandedMove 0 p 255 (v.state.code * 16 + st.code))
       else g) ∧
    t.tracker = s.tracker ∧ t.seq = s.seq ∧ t.scan = s.scan ∧ t.matcher = s.matcher ∧ t.tables = s.tables) ∧
  ∀ (p : Nat) (v : ValveRec) (s : State), s.valve p = some v →
    let stands := fun (k : SlotId) (o : StepRec) =>
      (s.slot k).state = .running ∧ (s.slot k).step.bind s.stepAt = some o ∧ o.operand = some p
    let completes := fun k : SlotId => ∃ o, (s.slot k).step.bind s.stepAt = some o ∧ stands k o ∧
      ((o.action = .openValve ∧ (s.slot k).order = .delivered ∧ v.state = .opened) ∨
        (o.action = .closeValve ∧ (s.slot k).order = .delivered ∧ v.state = .closed) ∨
        (o.action = .verifyOpen ∧ v.state = .opened) ∨ (o.action = .verifyClosed ∧ v.state = .closed))
    let takenOver := fun k : SlotId => v.reserving = some k ∧ v.location = .localControl ∧
      ((s.slot k).state = .running ∨ (s.slot k).state = .spacing ∨ (s.slot k).state = .waitStart)
    ((∀ k, ¬ takenOver k) → (∀ k, ¬ completes k) → handReport p s = s) ∧
    (∀ k, (∀ j, ¬ takenOver j) → completes k → (∀ j o, j ≠ k → (s.slot j).step.bind s.stepAt = some o → ¬ stands j o) →
      handReport p s = startStep k ((s.slot k).step.getD 0 + 1) s) ∧
    ∀ k, takenOver k → (∀ j o, j ≠ k → (s.slot j).step.bind s.stepAt = some o → ¬ stands j o) →
      ∃ t, handReport p s = t ∧
        t.slot k = { s.slot k with
          state := .observe, order := .none, endRequested := false, cause := some .takeover } ∧
        (∀ j, j ≠ k → t.slot j = s.slot j ∧ t.order j = s.order j) ∧
        t.order k = (if (s.order k).elim false (fun o => !o.begun) then none else s.order k) ∧
        t.mgmt = { s.mgmt with conditions := s.mgmt.conditions ||| condBit 10 } ∧
        t.log = s.logWith (s.record .slotEnded ((s.slot k).bound.getD 0) (s.trapOf k) k.val
          (5 * 256 + (s.slot k).step.getD 255)) ∧
        t.interlock = s.interlock ∧ t.tracker = s.tracker ∧ t.scan = s.scan ∧ t.tables = s.tables

/-- The check of a control-unit order, the steps of Table 5-6, with the zone of R114. -/
def Obligations.ControlOrderCheck : Prop :=
  ∀ (f : Frame) (s : State),
    let action := byteAt (framePayload f) 0
    let dest := frameDest f
    let check := checkOrder .control f s
    (action ≠ 1 → action ≠ 2 → action ≠ 3 → check = .forward) ∧
    (dest = 127 → action = 2 → check = .reject 3 0 255) ∧
    (dest = 127 → action = 1 ∨ action = 3 → check = .forward) ∧
    (dest ≠ 127 → valveOfNode s.map dest = none → check = .forward) ∧
    ∀ p part, dest ≠ 127 → valveOfNode s.map dest = some p → valvePart s.map p = some part →
      let slot := (s.valve p).bind ValveRec.reserving
      let occupied := fun r : Run =>
        chainMm s.map p - part.approach * 1000 ≤ r.position ∧ r.position ≤ chainMm s.map p + part.clearance * 1000
      (action = 3 → check = .forward) ∧
      (∀ j, action = 1 ∨ action = 2 → slot = some j → check = .reject 2 0 j.val) ∧
      (slot = none → action = 1 → check = .forward) ∧
      (slot = none → action = 2 → (part.role ≠ .mainline ∨ ∀ r ∈ s.tracker.runs, ¬ occupied r) → check = .forward) ∧
      ∀ ahead r behind, slot = none → action = 2 → part.role = .mainline → s.tracker.runs = ahead ++ r :: behind →
        (∀ x ∈ ahead, ¬ occupied x) → occupied r → check = .reject 1 r.id 255

/-! ### Sequences -/

/-- The start of a step: the countdown it loads, the step order NONE, and its start action. A step that waits stands as the
current step; one that completes at its start (a DWELL of 0, a VERIFY already met, an AWAIT APPROACH already reached) hands on to
the next, here one that waits. An OPEN or CLOSE whose place is taken, by whatever order, awaits it (log entry 13). -/
def Obligations.StepsStart : Prop :=
  ∀ (k : SlotId) (i : Nat) (r : StepRec) (s : State), s.stepAt i = some r →
    let at_ := fun countdown : Nat => s.updSlot k (fun x => { x with step := some i, order := .none, countdown := countdown })
    let nextWaits := ∃ o, s.stepAt (i + 1) = some o ∧
      (o.action = .openValve ∨ o.action = .closeValve ∨ o.action = .awaitPassage)
    let point := r.operand.getD 255
    let threshold := chainMm s.map point - r.value * 1000
    let foremost := s.tracker.runs.find? (fun x => decide (x.position < chainMm s.map point) && x.bound.isNone)
    ((r.action = .openValve ∨ r.action = .closeValve) →
      ∃ t, startStep k i s = t ∧ (t.slot k).step = some i ∧ (t.slot k).countdown = r.timeout ∧
        (t.slot k).state = (s.slot k).state ∧ (∀ j, j ≠ k → t.slot j = s.slot j ∧ t.order j = s.order j) ∧
        (s.order k = none → (t.slot k).order = .queued ∧
          ∃ o, t.order k = some o ∧ o.begun = false ∧ o.logged = false ∧ frameKind o.frame = 17 ∧
            frameTag o.frame = byte k.val ∧
            (∀ p n, r.operand = some p → (s.map[p]?).bind Point.node = some n → n ≤ 126 → frameDest o.frame = n) ∧
            (∀ n, s.lines.nodeNumber = some n → n ≤ 126 → frameSource o.frame = n) ∧
            framePayload o.frame = [if r.action = .openValve then 1#8 else 2#8, byte (128 + i)]) ∧
        (s.order k ≠ none → (t.slot k).order = .awaitingPlace ∧ t.order k = s.order k) ∧
        t.tracker = s.tracker ∧ t.interlock = s.interlock ∧ t.log = s.log ∧ t.mgmt = s.mgmt) ∧
    (r.action = .awaitPassage → startStep k i s = at_ r.timeout) ∧
    (r.action = .dwell → 0 < r.value → startStep k i s = at_ r.value) ∧
    (r.action = .dwell → r.value = 0 → nextWaits → startStep k i s = startStep k (i + 1) s) ∧
    (∀ p st, r.operand = some p →
      (r.action = .verifyOpen ∧ st = .opened) ∨ (r.action = .verifyClosed ∧ st = .closed) →
      (s.believed p st = false → startStep k i s = at_ r.timeout) ∧
      (s.believed p st = true → nextWaits → startStep k i s = startStep k (i + 1) s)) ∧
    (r.action = .awaitApproach →
      (∀ id x, (s.slot k).bound = some id → s.run id = some x →
        (x.position < threshold → startStep k i s = at_ r.timeout) ∧
        (threshold ≤ x.position → nextWaits → startStep k i s = startStep k (i + 1) s)) ∧
      ((s.slot k).bound = none → foremost = none → startStep k i s = at_ r.timeout) ∧
      ∀ x, (s.slot k).bound = none → foremost = some x →
        (x.position < threshold → startStep k i s = at_ r.timeout) ∧
        (threshold ≤ x.position → nextWaits →
          startStep k i s = startStep k (i + 1)
            ((s.setSlot k { s.slot k with bound := some x.id }).updRun x.id (fun y => { y with bound := some k }))))

/-- The slots' part of a second event, and the countdown that ends as a row of its own (log entry 4). A RUNNING slot whose
approach test succeeds completes its step, binding the run; otherwise a countdown above 1 decreases and one of 0 stays. At 1 the
row and the second event do the same: the spacing leads to the first step or, with end-requested, to ARMED; the DWELL hands on;
another step fails the train, which keeps its step order (log entry 26), or continues, with any order that waits un-begun in the
slot's place withdrawn (log entry 39). The step that one of these leads to is not counted down at the same second event (log
entry 16). -/
def Obligations.SlotCountdownsEnd : Prop :=
  (∀ s : State, s.mgmt.mode ≠ .guarded → tickSlots s = s) ∧
  ∀ (k : SlotId) (s : State), s.powered = true → s.mgmt.mode = .guarded →
    let alone := ∀ j, j ≠ k → (s.slot j).state ≠ .running ∧ (s.slot j).state ≠ .spacing
    let point := fun r : StepRec => r.operand.getD 255
    let threshold := fun r : StepRec => chainMm s.map (point r) - r.value * 1000
    let foremost := fun r : StepRec =>
      s.tracker.runs.find? (fun x => decide (x.position < chainMm s.map (point r)) && x.bound.isNone)
    let reached := fun r : StepRec => r.action = .awaitApproach ∧
      ((∃ id, (s.slot k).bound = some id ∧ ∃ x, s.run id = some x ∧ threshold r ≤ x.position) ∨
        ((s.slot k).bound = none ∧ ∃ x, foremost r = some x ∧ threshold r ≤ x.position))
    let zero := s.updSlot k (fun x => { x with countdown := 0 })
    let counts := (∀ j, j ≠ k → (s.slot j).state ≠ .running ∧ (s.slot j).state ≠ .spacing) →
      ((s.slot k).countdown = 0 → tickSlots s = s) ∧
      (2 ≤ (s.slot k).countdown →
        tickSlots s = s.updSlot k (fun x => { x with countdown := (s.slot k).countdown - 1 }))
    ((s.slot k).state ≠ .running → (s.slot k).state ≠ .spacing → alone → tickSlots s = s) ∧
    ((s.slot k).state = .running → ∀ i r, (s.slot k).step = some i → s.stepAt i = some r →
      (reached r →
        exec (.stepTimeout k.val) s = .next s ∧
        (alone →
          (∀ id, (s.slot k).bound = some id → tickSlots s = startStep k (i + 1) s) ∧
          ∀ x, (s.slot k).bound = none → foremost r = some x →
            tickSlots s = startStep k (i + 1)
              ((s.setSlot k { s.slot k with bound := some x.id }).updRun x.id (fun y => { y with bound := some k })))) ∧
      (¬ reached r → counts ∧ ((s.slot k).countdown = 1 →
        (r.action = .dwell → exec (.dwellEnd k.val) s = .next (startStep k (i + 1) zero) ∧
          (alone → exec (.dwellEnd k.val) s = .next (tickSlots s))) ∧
        (r.action ≠ .dwell →
          (alone → exec (.stepTimeout k.val) s = .next (tickSlots s)) ∧
          (r.continueOn = true →
            exec (.stepTimeout k.val) s = .next (startStep k (i + 1)
              (if (s.order k).elim false (fun o => !o.begun) then zero.setOrder k none else zero))) ∧
          (r.continueOn = false →
            ∃ t, exec (.stepTimeout k.val) s = .next t ∧
              t.slot k = { s.slot k with
                countdown := 0, state := .failed, endRequested := false, cause := some .stepFailed } ∧
              (∀ j, j ≠ k → t.slot j = s.slot j) ∧
              t.mgmt = { s.mgmt with conditions := s.mgmt.conditions ||| condBit 9 } ∧
              t.log = s.logWith
                (s.record .slotEnded ((s.slot k).bound.getD 0) (s.trapOf k) k.val (4 * 256 + i)) ∧
              t.order k = (if (s.order k).elim false (fun o => !o.begun) then none else s.order k) ∧
              t.tracker = s.tracker ∧ t.interlock = s.interlock))))) ∧
    ((s.slot k).state = .spacing → counts ∧ ((s.slot k).countdown = 1 →
      (alone → exec (.spacingEnd k.val) s = .next (tickSlots s)) ∧
      ((s.slot k).endRequested = false →
        exec (.spacingEnd k.val) s =
          .next (startStep k (s.firstStepOf k) (s.updSlot k (fun x => { x with countdown := 0, state := .running })))) ∧
      ((s.slot k).endRequested = true →
        ∃ t, exec (.spacingEnd k.val) s = .next t ∧
          t.slot k = { s.slot k with
            countdown := 0, state := .armed, step := none, order := .none, endRequested := false
            count := (s.slot k).base, cause := some .endRequest } ∧
          (∀ j, j ≠ k → t.slot j = s.slot j) ∧ t.tracker = s.tracker ∧ t.interlock = s.interlock ∧ t.mgmt = s.mgmt)))

/-- The END step: the bound run is unbound, and the train terminates or the slot goes on to its next cycle, by the first
condition that holds; with a spacing of 0 at once to the first step, here one that waits. SLOT ENDED carries the run that was
bound (log entry 14), and an order that waits un-begun is withdrawn at a termination. -/
def Obligations.EndStepDecides : Prop :=
  ∀ (k : SlotId) (i : Nat) (r : StepRec) (s : State), s.stepAt i = some r → r.action = .endCycle →
    (s.slot k).state = .running →
    let bound := (s.slot k).bound
    let x : Slot := { s.slot k with step := some i, order := .none, countdown := 0, bound := none }
    let t := startStep k i s
    let unbound := fun u : State => u.tracker =
      { s.tracker with runs := s.tracker.runs.map (fun y => if bound = some y.id then { y with bound := none } else y) }
    let others := fun u : State => (∀ j, j ≠ k → u.slot j = s.slot j ∧ u.order j = s.order j) ∧ unbound u ∧
      u.mgmt = s.mgmt ∧ u.scan = s.scan ∧ u.tables = s.tables
    let left := if (s.order k).elim false (fun o => !o.begun) then none else s.order k
    let record := fun cause : Cause =>
      s.logWith (s.record .slotEnded (bound.getD 0) (s.trapOf k) k.val (cause.code * 256 + i))
    let ends := fun cause : Cause => t.log = record cause ∧ t.order k = left ∧ others t
    let goes := t.log = s.log ∧ t.order k = s.order k ∧ others t ∧ t.interlock = s.interlock
    let firstWaits := ∃ o, s.stepAt (s.firstStepOf k) = some o ∧
      (o.action = .openValve ∨ o.action = .closeValve ∨ o.action = .awaitPassage)
    let freed : State := { s with
      tracker := { s.tracker with
        runs := s.tracker.runs.map (fun y => if bound = some y.id then { y with bound := none } else y) } }
    (x.endRequested = true →
      ends .endRequest ∧ t.interlock = s.interlock ∧ t.slot k = { x with
        state := .armed, step := none, endRequested := false, count := x.base, cause := some .endRequest }) ∧
    (x.endRequested = false → x.count = 0 → x.chain = none → x.autoRepeat = true →
      ends .count ∧ t.interlock = s.interlock ∧
      t.slot k = { x with state := .armed, step := none, count := x.base, cause := some .count }) ∧
    (x.endRequested = false → x.count = 0 → x.chain = none → x.autoRepeat = false →
      ends .count ∧
      t.slot k = { x with
        state := .idle, step := none, permit := false, reserved := [], count := x.base, cause := some .count } ∧
      t.interlock.valves = s.interlock.valves.map (fun v =>
        if v.reserving = some k then { v with reserving := none } else v)) ∧
    (∀ ch, x.endRequested = false → x.count = 0 → x.chain = some ch →
      let next := { x with
        cls := ch.cls, mode := ch.mode, base := ch.base, count := ch.base, spacing := ch.spacing, chain := none
        cause := some .count }
      (0 < ch.spacing → ends .count ∧ t.interlock = s.interlock ∧
        t.slot k = { next with state := .spacing, countdown := ch.spacing }) ∧
      (ch.spacing = 0 → firstWaits →
        t = startStep k (s.firstStepOf k) (({ freed with log := record .count }.setOrder k left).setSlot k next))) ∧
    (x.endRequested = false → 0 < x.count → x.mode = .single →
      goes ∧ t.slot k = { x with state := .waitStart }) ∧
    (x.endRequested = false → 0 < x.count → (x.mode = .train ∨ (x.mode = .permissive ∧ x.permit = true)) →
      (0 < x.spacing → goes ∧ t.slot k = { x with state := .spacing, countdown := x.spacing }) ∧
      (x.spacing = 0 → firstWaits → t = startStep k (s.firstStepOf k) (freed.setSlot k x))) ∧
    (x.endRequested = false → 0 < x.count → x.mode = .permissive → x.permit = false →
      ends .permitWithdrawn ∧ t.interlock = s.interlock ∧
      t.slot k = { x with state := .armed, step := none, cause := some .permitWithdrawn })

/-- INSERT RUN makes, places and binds a run with the entry values of Table 2-1, a run that was bound unbound first; without room
the train fails, its record naming the run that was bound (log entry 14). REMOVE RUN takes the bound run out as received, and
fails without one; a failure withdraws an order that waits un-begun. Each lowers the current count by one. The slot then stands at its next step, here one that waits for a
passage. -/
def Obligations.RunStepsInsertAndRemove : Prop :=
  ∀ (k : SlotId) (i : Nat) (r next : StepRec) (s : State), s.RunsCounted → s.BindingsMirrored → s.stepAt i = some r →
    s.stepAt (i + 1) = some next → next.action = .awaitPassage → (s.slot k).state = .running →
    let t := startStep k i s
    let bound := (s.slot k).bound
    let others := s.tracker.runs.map (fun y => if bound = some y.id then { y with bound := none } else y)
    let trap := s.trapOf k
    let cls := (s.slot k).cls
    let standing := { s.slot k with
      step := some (i + 1), countdown := next.timeout, order := .none, count := (s.slot k).count - 1 }
    let fails := fun runs : List Run =>
      t.tracker = { s.tracker with runs := runs } ∧
      t.slot k = { s.slot k with
        step := some i, countdown := 0, order := .none, state := .failed, endRequested := false, bound := none
        cause := some .stepFailed } ∧
      t.order k = (if (s.order k).elim false (fun o => !o.begun) then none else s.order k) ∧
      t.mgmt = { s.mgmt with conditions := s.mgmt.conditions ||| condBit 9 } ∧
      t.log = s.logWith (s.record .slotEnded (bound.getD 0) trap k.val (4 * 256 + i))
    (r.action = .insertRun ∨ r.action = .removeRun →
      (∀ j, j ≠ k → t.slot j = s.slot j ∧ t.order j = s.order j) ∧ t.interlock = s.interlock ∧ t.tables = s.tables ∧
      t.matcher = s.matcher ∧ t.scan = s.scan ∧ t.portB = { s.portB with orders := t.portB.orders } ∧ t.lines = s.lines) ∧
    (r.action = .insertRun → s.tracker.runs.length < 16 →
      ∃ x, t.tracker.runs = placeRun x others ∧
        t.tracker = { s.tracker with
          runs := t.tracker.runs, lastId := x.id, inserted := s.tracker.inserted + 1#32 } ∧
        (∀ y ∈ s.tracker.runs, y.id ≠ x.id) ∧
        (∃ d, d < 17 ∧ x.id = (s.tracker.lastId + d) % 255 + 1 ∧
          ∀ e, e < d → ∃ y ∈ s.tracker.runs, y.id = (s.tracker.lastId + e) % 255 + 1) ∧
        x = { id := x.id, cls := cls, state := .moving, position := chainMm s.map trap, speed := 0
              slip := (s.classOf cls).slip0, band := (s.classOf cls).band0 * 1000, flowDist := 0
              lastFix := trap, nextDet := nextDetector s.map trap, misses := 0, halted := 0, zoneValve := none
              current := 0#11, accrued := 0#11, alarmed := 0#11, origin := .launched k, bound := some k
              insertedAt := s.tracker.clock } ∧
        t.slot k = { standing with bound := some x.id } ∧
        t.log = s.logWith (s.record .runInserted x.id trap k.val cls) ∧ t.mgmt = s.mgmt ∧ t.order k = s.order k) ∧
    (r.action = .insertRun → 16 ≤ s.tracker.runs.length → fails others) ∧
    (∀ x, r.action = .removeRun → bound = some x.id → s.run x.id = some x →
      t.tracker = { s.tracker with
        runs := s.tracker.runs.filter (fun y => y.id != x.id), received := s.tracker.received + 1#32 } ∧
      t.slot k = { standing with bound := none } ∧
      t.log = s.logWith (s.record .runReceived x.id trap (slotNumber x.bound) 0) ∧ t.mgmt = s.mgmt ∧
      t.order k = s.order k) ∧
    (r.action = .removeRun → bound = none → fails s.tracker.runs)

/-! ### Requests -/

/-- Each request's row serves the request in service, when it is that one and a place of the answer queue is free: a wrong
argument length is BAD REQUEST and changes nothing, another request's row does nothing, and without a free place the request
waits, LINK CLEAR apart. LOAD POINT's length is that of the kind in its second byte. A request with an unknown code, taken with
both places of the input slot empty, is answered BAD REQUEST (log entry 20). -/
def Obligations.RequestsAreServedInTurn : Prop :=
  (∀ x ∈ ([(.readStatus, 1, 0), (.setMode, 2, 1), (.setConfig, 3, 3), (.setTime, 4, 4), (.ackConditions, 5, 2),
      (.linkClear, 6, 0), (.restart, 7, 0), (.loadClass, 11, 10), (.loadProgram, 12, 5), (.loadStep, 13, 8),
      (.clearShadow, 14, 1), (.commit, 15, 1), (.readTableRecord, 16, 3), (.readRun, 20, 2), (.adoptRun, 21, 2),
      (.abandonRun, 22, 1), (.repositionRun, 23, 2), (.arm, 30, 8), (.start, 31, 1), (.setPermit, 32, 2),
      (.endTrain, 33, 1), (.abort, 34, 1), (.resume, 35, 1), (.retry, 36, 1), (.loadChain, 37, 7), (.readSlot, 38, 1),
      (.readValve, 40, 1), (.readNode, 41, 1), (.readFlow, 42, 1), (.loadWatch, 45, 8), (.readLog, 46, 3),
      (.logResume, 47, 1)] : List (Instr × Nat × Nat)),
    ∀ (r : Request) (s : State),
      (∀ args, s.serving r x.2.1 args = true → args.length ≠ x.2.2 → exec x.1 s = .next (s.answered r x.2.1 3 [])) ∧
      (s.powered = true → s.mgmt.service = some ⟨r, .unserved⟩ → r.code ≠ some x.2.1 → exec x.1 s = .next s) ∧
      (s.powered = true → s.mgmt.service = some ⟨r, .unserved⟩ → r.payload ≠ [6#8] → s.freePlaces = 0 →
        exec x.1 s = .next s)) ∧
  (∀ (r : Request) (args : List Byte) (s : State), s.serving r 10 args = true →
    (args.length < 8 ∨ ∃ n, pointArgLength (byteAt args 1) = some n ∧ args.length ≠ n) →
    exec .loadPoint s = .next (s.answered r 10 3 [])) ∧
  ∀ (f : Frame) (s : State), s.powered = true → s.listening .a = true → frameBad f = false → 0 < s.freePlaces →
    s.lines.nodeNumber = some (frameDest f) → frameKind f = 64 →
    (s.mgmt.config.managerNode = 0 ∨ s.mgmt.config.managerNode = frameSource f) →
    s.mgmt.service = none → s.mgmt.waiting = none →
    (∀ c, (framePayload f).head? = some c → ¬ (c.toNat ∈ requestCodes)) →
    exec (.portAReceive f) s =
      .next ((s.repliedTo .a .accept).setAnswers (s.portA.answers ++
        [{ frame := mkFrame (frameSource f) (frameDest f) 65 (frameTag f)
             [(framePayload f).head?.getD 0#8, 3#8], restart := false }]))

/-- READ STATUS answers the fields of Table 10-5 in order; SET CONFIG gives one item its value, a new log mode emptying the log;
RESTART makes its answer and stays in service, its answer marked. -/
def Obligations.StatusConfigurationAndRestart : Prop :=
  (∀ (r : Request) (s : State), s.serving r 1 [] = true →
    exec .readStatus s = .next (s.answered r 1 0
      ([byte (match s.mgmt.mode with | .transparent => 0 | .monitor => 1 | .guarded => 2)] ++
        put16 (conditionWord s.mgmt.conditions).toNat ++
        [flagByte (decide (s.map ≠ [])), flagByte (s.tables.active.classes.any Option.isSome),
         byte s.tracker.runs.length] ++
        put32 s.tracker.inserted.toNat ++ put32 s.tracker.received.toNat ++ put32 s.tracker.exited.toNat ++
        put32 s.tracker.abandoned.toNat ++ put16 (s.link .a).checkErrors ++ put16 (s.link .b).checkErrors ++
        [byte (s.slot 0).state.code, byte (s.slot 1).state.code, byte (s.slot 2).state.code,
         byte (s.slot 3).state.code]))) ∧
  (∀ (r : Request) (item hi lo : Byte) (s : State), s.serving r 3 [item, hi, lo] = true →
    let v := hi.toNat * 256 + lo.toNat
    let takes := fun cfg : Config =>
      exec .setConfig s = .next (({ s with mgmt := { s.mgmt with config := cfg } } : State).answered r 3 0 [item, hi, lo])
    let refused := exec .setConfig s = .next (s.answered r 3 4 [])
    (item = 1 → v ≤ 126 → takes { s.mgmt.config with managerNode := v }) ∧
    (item = 2 → v ≤ 126 → takes { s.mgmt.config with alertNode := v }) ∧
    (item = 3 → v ≤ 8191 → takes { s.mgmt.config with alertEnables := BitVec.ofNat 13 v }) ∧
    (item = 4 → v ≤ 2047 → takes { s.mgmt.config with alarmMask := BitVec.ofNat 11 v }) ∧
    (item = 5 → v ≤ 1 → takes { s.mgmt.config with downDrop := decide (v = 1) }) ∧
    (item = 6 → v ≤ 1 → takes { s.mgmt.config with upDrop := decide (v = 1) }) ∧
    (item = 7 → v ≤ 1 → takes { s.mgmt.config with rotating := decide (v = 1) }) ∧
    (item = 8 → 5 ≤ v → v ≤ 600 → takes { s.mgmt.config with scanInterval := v }) ∧
    (∀ m : LogMode, item = 9 → v = m.code →
      (m = s.mgmt.config.logMode → exec .setConfig s = .next (s.answered r 3 0 [item, hi, lo])) ∧
      (m ≠ s.mgmt.config.logMode →
        exec .setConfig s =
          .next (({ s with
            mgmt := { s.mgmt with config := { s.mgmt.config with logMode := m } }
            log := { s.log with lower := ⟨0, 0⟩, upper := ⟨0, 0⟩, whole := ⟨0, 0⟩ } } : State).answered r 3 0
              [item, hi, lo]))) ∧
    (item = 10 → v ≤ 1 → takes { s.mgmt.config with freezeOnAlarm := decide (v = 1) }) ∧
    (item = 0 ∨ 10 < item.toNat → refused) ∧
    ((item = 1 ∨ item = 2) → 126 < v → refused) ∧ (item = 3 → 8191 < v → refused) ∧ (item = 4 → 2047 < v → refused) ∧
    ((item = 5 ∨ item = 6 ∨ item = 7 ∨ item = 10) → 1 < v → refused) ∧ (item = 8 → (v < 5 ∨ 600 < v) → refused) ∧
    (item = 9 → 3 < v → refused)) ∧
  ∀ (r : Request) (s : State), s.serving r 7 [] = true →
    exec .restart s =
      .next { s with
        portA := { s.portA with
          answers := s.portA.answers ++
            [{ frame := mkFrame r.source (s.lines.nodeNumber.getD 0) 65 r.tag [7#8, 0#8], restart := true }] }
        mgmt := { s.mgmt with service := some ⟨r, .restartAnswered⟩ } }

/-- SET TIME sets the section clock, whatever the mode, and changes nothing else; only a wrong length refuses it. ACK CONDITIONS
clears the flags it names and answers the word that stands then; a set above 8,191 is out of range. -/
def Obligations.ClockIsSetAndConditionsAcknowledged : Prop :=
  (∀ (r : Request) (a b c d : Byte) (s : State), s.serving r 4 [a, b, c, d] = true →
    exec .setTime s =
      .next (({ s with tracker := { s.tracker with
        clock := BitVec.ofNat 32 (((a.toNat * 256 + b.toNat) * 256 + c.toNat) * 256 + d.toNat) } } : State).answered r 4 0
          [a, b, c, d])) ∧
  (∀ (r : Request) (args : List Byte) (s : State), s.serving r 4 args = true → args.length ≠ 4 →
    exec .setTime s = .next (s.answered r 4 3 [])) ∧
  ∀ (r : Request) (hi lo : Byte) (s : State), s.serving r 5 [hi, lo] = true →
    let set := hi.toNat * 256 + lo.toNat
    let word := s.mgmt.conditions &&& ~~~(BitVec.ofNat 13 set)
    (8191 < set → exec .ackConditions s = .next (s.answered r 5 4 [])) ∧
    (set ≤ 8191 →
      (∀ c, c < 13 → word.getLsbD c = (s.mgmt.conditions.getLsbD c && !set.testBit c)) ∧
      exec .ackConditions s =
        .next (({ s with mgmt := { s.mgmt with conditions := word } } : State).answered r 5 0
          (put16 (conditionWord word).toNat)))

/-- SET MODE: the code out of range, the mode that stands, a mode without its tables; and the four changes of Table 9-5. The
runs, the queues, the conditions and the tables stand through a change that does not go to TRANSPARENT, where the
trains of slots that are not IDLE end first, with SLOT ENDED, and then every run is abandoned. The SLOT ENDED record of a
slot without a step carries 255 (log entry 14). -/
def Obligations.ModeChanges : Prop :=
  ∀ (r : Request) (m : Byte) (s : State), s.serving r 2 [m] = true →
    let moved := fun (t : State) => exec .setMode s = .next (t.answered r 2 0 [byte s.mgmt.mode.code, m])
    let inUse := s.map ≠ [] ∧ s.tables.active.classes.any Option.isSome = true
    let ended := fun g : EventLog => slotIds.foldl
      (fun g k =>
        if (s.slot k).state = .idle then g
        else g.offer s.mgmt.config.logMode
          (s.record .slotEnded ((s.slot k).bound.getD 0) (s.trapOf k) k.val (7 * 256 + (s.slot k).step.getD 255))) g
    let dropped := fun k : SlotId => { s.slot k with
      state := .idle, step := none, countdown := 0, order := .none, permit := false, reserved := []
      endRequested := false, chain := none, count := (s.slot k).base, bound := none, cause := some .modeChange }
    let freed := fun runs : List Run => runs.map (fun x =>
      if slotIds.any (fun k => (s.slot k).state != .idle && (s.slot k).bound == some x.id) then { x with bound := none } else x)
    let changed := fun (g : EventLog) => g.offer s.mgmt.config.logMode
      (s.record .modeChanged 0 255 255 (s.mgmt.mode.code * 256 + m.toNat))
    (2 < m.toNat → exec .setMode s = .next (s.answered r 2 4 [])) ∧
    (m.toNat = s.mgmt.mode.code → exec .setMode s = .next (s.answered r 2 0 [m, m])) ∧
    (m.toNat ≠ s.mgmt.mode.code → (m = 1 ∨ m = 2) → ¬ inUse → exec .setMode s = .next (s.answered r 2 5 [])) ∧
    (∀ mode : Mode, s.mgmt.mode = .transparent → mode ≠ .transparent → m.toNat = mode.code → inUse →
      moved { s with
        mgmt := { s.mgmt with mode := mode }
        scan := { nodes := s.scan.nodes, pollList := s.scan.nodes.map NodeRec.node
                  countdown := s.mgmt.config.scanInterval }
        log := changed s.log }) ∧
    (s.mgmt.mode = .monitor → m = 2 → inUse →
      moved { s with mgmt := { s.mgmt with mode := .guarded }, log := changed s.log }) ∧
    (s.mgmt.mode = .guarded → m = 1 → inUse →
      ∃ t : State, moved t ∧ t.mgmt = { s.mgmt with mode := .monitor } ∧
        (∀ k, (s.slot k).state = .idle → t.slot k = s.slot k ∧ t.order k = s.order k) ∧
        (∀ k, (s.slot k).state ≠ .idle →
          t.slot k = dropped k ∧
          (∀ v ∈ t.interlock.valves, v.reserving ≠ some k) ∧
          t.order k = (if (s.order k).elim false (fun o => !o.begun) then none else s.order k)) ∧
        t.tracker = { s.tracker with runs := freed s.tracker.runs } ∧
        t.log = changed (ended s.log) ∧ t.scan = s.scan ∧ t.matcher = s.matcher ∧ t.tables = s.tables ∧
        t.portA = s.portA ∧ t.portB.link = s.portB.link ∧ t.portB.up = s.portB.up) ∧
    (s.mgmt.mode ≠ .transparent → m = 0 →
      ∃ t : State, moved t ∧ t.mgmt = { s.mgmt with mode := .transparent } ∧
        (∀ k, (s.slot k).state = .idle → t.order k = s.order k ∧ t.slot k = { s.slot k with
          bound := if s.tracker.runs.any (fun x => (s.slot k).bound == some x.id) then none else (s.slot k).bound }) ∧
        (∀ k, (s.slot k).state ≠ .idle →
          t.order k = (if (s.order k).elim false (fun o => !o.begun) then none else s.order k) ∧ t.slot k = dropped k) ∧
        t.tracker = { s.tracker with
          flows := s.tracker.flows.map (fun f => { point := f.point, q := 0, state := .none, rev := false, age := 0 })
          runs := [], abandoned := s.tracker.abandoned + BitVec.ofNat 32 s.tracker.runs.length } ∧
        t.interlock.valves = s.interlock.valves.map (fun v => ValveRec.initial v.point) ∧
        t.matcher.detectors = s.matcher.detectors.map (fun d => DetectorRec.initial d.point) ∧
        t.scan = { nodes := s.scan.nodes.map (fun n => NodeRec.initial n.node), pollList := [], countdown := 0 } ∧
        t.portA = s.portA ∧ t.portB.link = s.portB.link ∧ t.portB.up = s.portB.up ∧ t.tables = s.tables ∧
        t.log = changed ((freed s.tracker.runs).foldl
          (fun g x => g.offer s.mgmt.config.logMode
            (s.record .runAbandoned x.id x.lastFix (slotNumber x.bound) 1)) (ended s.log)))

/-- The loads into the shadow copies and the watch list: PENDING while a commit of the table is pending, OUT OF RANGE outside the
ranges of Tables 1-1, 1-2, 1-3, 6-1, 6-2 and 8-3, and otherwise the record stored in its place, field by field. A point is
appended at the point count. The END point's node byte is in range up to 126 and is not stored (log entry 21). -/
def Obligations.LoadsFillTheShadow : Prop :=
  (∀ (r : Request) (i : Byte) (layout : List Byte) (s : State), s.serving r 10 (i :: layout) = true →
    7 ≤ layout.length →
    let at_ := byteAt layout
    let two := fun j : Nat => at_ j * 256 + at_ (j + 1)
    let kind := at_ 0
    (kind = 1 → layout.length = 13) → (kind = 2 → layout.length = 20) → (kind = 3 → layout.length = 15) →
    (kind = 4 → layout.length = 14) → (kind = 5 → layout.length = 7) →
    let chainage := ((at_ 1 * 256 + at_ 2) * 256 + at_ 3) * 256 + at_ 4
    let index := fun j : Nat => at_ j ≤ 63 ∨ at_ j = 255
    let indexed := fun j : Nat => if at_ j = 255 then none else some (at_ j)
    let inRange := (1 ≤ kind ∧ kind ≤ 5) ∧ chainage ≤ 400000 ∧ at_ 5 ≤ 126 ∧ (2 ≤ kind → kind ≤ 4 → at_ 5 ≠ 0) ∧ at_ 6 ≤ 1 ∧
      (kind ≤ 4 → (100 ≤ two 7 ∧ two 7 ≤ 20000) ∧ (100 ≤ two 9 ∧ two 9 ≤ 8000) ∧ index 11) ∧
      (kind = 1 → 1 ≤ at_ 12 ∧ at_ 12 ≤ 3) ∧
      (kind = 2 → (1 ≤ at_ 12 ∧ at_ 12 ≤ 5) ∧ two 13 ≤ 5000 ∧ two 15 ≤ 500 ∧ (5 ≤ two 17 ∧ two 17 ≤ 900) ∧ index 19) ∧
      (kind = 3 → at_ 12 ≤ 3 ∧ two 13 ≤ 600) ∧ (kind = 4 → two 12 ≤ 600)
    let node := if kind = 5 ∨ at_ 5 = 0 then none else some (at_ 5)
    let role : ValveRole := match at_ 12 with | 1 => .mainline | 2 => .bypass | 3 => .launch | 4 => .receive | _ => .kicker
    let record : Point :=
      { chainage := chainage, node := node, supervise := decide (at_ 6 = 1 ∧ node ≠ none)
        stretch := if kind = 5 then none else some { bore := two 7, umax := two 9, source := indexed 11 }
        part := match kind with
          | 1 => .trap (match at_ 12 with | 1 => .launcher | 2 => .receiver | _ => .both)
          | 2 => .valve { role := role, approach := two 13, clearance := two 15, travel := two 17
                          trapRef := if role = .mainline then none else indexed 19 }
          | 3 => .detector (at_ 12) (two 13)
          | 4 => .meter (two 12)
          | _ => .endPoint }
    let points := s.tables.shadow.lineMap
    let stored := fun m : List Point => exec .loadPoint s =
      .next (({ s with tables := { s.tables with shadow := { s.tables.shadow with lineMap := m } } } : State).answered r 10 0 [])
    (s.tables.pendingCommit = some .lineMap → exec .loadPoint s = .next (s.answered r 10 6 [])) ∧
    (s.tables.pendingCommit ≠ some .lineMap →
      (63 < i.toNat ∨ points.length < i.toNat ∨ ¬ inRange → exec .loadPoint s = .next (s.answered r 10 4 [])) ∧
      (i.toNat ≤ 63 → inRange →
        (i.toNat < points.length → stored (points.set i.toNat record)) ∧
        (i.toNat = points.length → stored (points ++ [record]))))) ∧
  (∀ (r : Request) (i s1 s0 b1 b0 g m1 m0 l1 l0 : Byte) (s : State),
    s.serving r 11 [i, s1, s0, b1, b0, g, m1, m0, l1, l0] = true →
    let slip := s1.toNat * 256 + s0.toNat
    let band0 := b1.toNat * 256 + b0.toNat
    let bandMax := m1.toNat * 256 + m0.toNat
    let limit := l1.toNat * 256 + l0.toNat
    let ok := i.toNat ≤ 7 ∧ 500 ≤ slip ∧ slip ≤ 1000 ∧ 1 ≤ band0 ∧ band0 ≤ 2000 ∧ g.toNat ≤ 200 ∧ band0 ≤ bandMax ∧
      bandMax ≤ 20000 ∧ 30 ≤ limit
    (s.tables.pendingCommit = some .classes → exec .loadClass s = .next (s.answered r 11 6 [])) ∧
    (s.tables.pendingCommit ≠ some .classes → ¬ ok → exec .loadClass s = .next (s.answered r 11 4 [])) ∧
    (s.tables.pendingCommit ≠ some .classes → ok →
      exec .loadClass s = .next (({ s with tables := { s.tables with shadow := { s.tables.shadow with
        classes := s.tables.shadow.classes.set i.toNat
          (some { slip0 := slip, band0 := band0, growth := g.toNat, bandMax := bandMax, stallLimit := limit }) } } } :
            State).answered r 11 0 []))) ∧
  (∀ (r : Request) (i kind trap first count : Byte) (s : State), s.serving r 12 [i, kind, trap, first, count] = true →
    let ok := i.toNat ≤ 15 ∧ (kind = 1 ∨ kind = 2) ∧ trap.toNat ≤ 63 ∧ first.toNat ≤ 127 ∧ 1 ≤ count.toNat ∧ count.toNat ≤ 32
    let record : Program :=
      { kind := if kind = 1 then .launch else .receive, trap := trap.toNat, first := first.toNat, count := count.toNat }
    let programs := s.tables.shadow.seq.programs.set i.toNat (some record)
    (s.tables.pendingCommit = some .sequence → exec .loadProgram s = .next (s.answered r 12 6 [])) ∧
    (s.tables.pendingCommit ≠ some .sequence → ¬ ok → exec .loadProgram s = .next (s.answered r 12 4 [])) ∧
    (s.tables.pendingCommit ≠ some .sequence → ok →
      exec .loadProgram s = .next (({ s with tables := { s.tables with shadow := { s.tables.shadow with
        seq := { s.tables.shadow.seq with programs := programs } } } } : State).answered r 12 0 []))) ∧
  (∀ (r : Request) (i action point v1 v0 t1 t0 cont : Byte) (a : Action) (s : State),
    s.serving r 13 [i, action, point, v1, v0, t1, t0, cont] = true →
    let value := v1.toNat * 256 + v0.toNat
    let timeout := t1.toNat * 256 + t0.toNat
    let ok := i.toNat ≤ 127 ∧ (point.toNat ≤ 63 ∨ point = 255) ∧ timeout ≤ 7200 ∧ cont.toNat ≤ 1 ∧
      (a = .dwell → value ≤ 7200) ∧ (a = .awaitApproach → value ≤ 50000)
    let record : StepRec :=
      { action := a, operand := if point = 255 then none else some point.toNat, value := value, timeout := timeout
        continueOn := decide (cont = 1) }
    let steps := s.tables.shadow.seq.steps.set i.toNat (some record)
    (s.tables.pendingCommit = some .sequence → exec .loadStep s = .next (s.answered r 13 6 [])) ∧
    (s.tables.pendingCommit ≠ some .sequence → (action = 0 ∨ 10 < action.toNat) →
      exec .loadStep s = .next (s.answered r 13 4 [])) ∧
    (s.tables.pendingCommit ≠ some .sequence → action.toNat = a.code → ¬ ok →
      exec .loadStep s = .next (s.answered r 13 4 [])) ∧
    (s.tables.pendingCommit ≠ some .sequence → action.toNat = a.code → ok →
      exec .loadStep s = .next (({ s with tables := { s.tables with shadow := { s.tables.shadow with
        seq := { s.tables.shadow.seq with steps := steps } } } } : State).answered r 13 0 []))) ∧
  ∀ (r : Request) (i enabled node mask k1 k0 dir act : Byte) (d : WatchDir) (s : State),
    s.serving r 45 [i, enabled, node, mask, k1, k0, dir, act] = true →
    let kind := k1.toNat * 256 + k0.toNat
    let record : WatchEntry :=
      { enabled := decide (enabled = 1), node := node.toNat, mask := mask.toNat
        kind := if kind = 256 then none else some kind, dir := d, freeze := decide (act = 1) }
    let ok := i.toNat ≤ 7 ∧ enabled.toNat ≤ 1 ∧ node.toNat ≤ 127 ∧ mask.toNat ≤ 127 ∧ kind ≤ 256 ∧ act.toNat ≤ 1
    ((2 < dir.toNat ∨ ¬ ok) → exec .loadWatch s = .next (s.answered r 45 4 [])) ∧
    (dir.toNat = d.code → ok →
      exec .loadWatch s =
        .next (({ s with tables := { s.tables with watch := s.tables.watch.set i.toNat record } } : State).answered r 45 0 []))

/-- CLEAR SHADOW empties the shadow copy of the table it names and touches nothing else. -/
def Obligations.ClearShadowEmptiesOneCopy : Prop :=
  ∀ (r : Request) (t : Byte) (s : State), s.serving r 14 [t] = true →
    let cleared := fun sh : Tables =>
      exec .clearShadow s = .next (({ s with tables := { s.tables with shadow := sh } } : State).answered r 14 0 [])
    (2 < t.toNat → exec .clearShadow s = .next (s.answered r 14 4 [])) ∧
    (∀ id : TableId, t.toNat = id.code → s.tables.pendingCommit = some id →
      exec .clearShadow s = .next (s.answered r 14 6 [])) ∧
    (t = 0 → s.tables.pendingCommit ≠ some .lineMap → cleared { s.tables.shadow with lineMap := [] }) ∧
    (t = 1 → s.tables.pendingCommit ≠ some .classes → cleared { s.tables.shadow with classes := List.replicate 8 none }) ∧
    (t = 2 → s.tables.pendingCommit ≠ some .sequence →
      cleared { s.tables.shadow with
        seq := { programs := List.replicate 16 none, steps := List.replicate 128 none } })

/-- The examination of COMMIT, and its taking: it becomes pending and stays in service without an answer. READ TABLE RECORD
answers the record in its load layout with the counts of the copy read, those that COMMIT answers; for the Line Map they are the
point count and the number of supervised nodes of that copy (log entry 11). -/
def Obligations.CommitIsTakenAndTablesAreRead : Prop :=
  (∀ (r : Request) (t : Byte) (s : State), s.serving r 15 [t] = true →
    let refused := fun status : Nat => exec .commit s = .next (s.answered r 15 status [])
    let taken := fun id : TableId => exec .commit s = .next { s with
      tables := { s.tables with pendingCommit := some id }
      mgmt := { s.mgmt with service := some ⟨r, .commitTaken⟩ } }
    let free := ∀ k, (s.slot k).state = .idle
    (2 < t.toNat → refused 4) ∧
    (∀ id : TableId, t.toNat = id.code → s.tables.pendingCommit = some id → refused 6) ∧
    (t = 0 → s.tables.pendingCommit ≠ some .lineMap →
      (s.tracker.runs ≠ [] → refused 7) ∧ (s.tracker.runs = [] → ¬ free → refused 8) ∧
      (s.tracker.runs = [] → free → taken .lineMap)) ∧
    (t = 1 → s.tables.pendingCommit ≠ some .classes → taken .classes) ∧
    (t = 2 → s.tables.pendingCommit ≠ some .sequence → (¬ free → refused 8) ∧ (free → taken .sequence))) ∧
  ∀ (r : Request) (code i copy : Byte) (s : State), s.serving r 16 [code, i, copy] = true →
    let limit := match code.toNat with | 0 => 63 | 1 => 7 | 2 => 15 | 3 => 7 | _ => 127
    let refused := fun status : Nat => exec .readTableRecord s = .next (s.answered r 16 status [])
    let answers := fun (first second : Nat) (record : Option (List Byte)) =>
      (record = none → refused 11) ∧
      ∀ bs, record = some bs →
        exec .readTableRecord s = .next (s.answered r 16 0 ([code, i, copy, byte first, byte second] ++ bs))
    let c := if copy = 1 then s.tables.shadow else s.tables.active
    let programs := (c.seq.programs.filter Option.isSome).length
    let steps := (c.seq.steps.filter Option.isSome).length
    (4 < code.toNat ∨ 1 < copy.toNat ∨ limit < i.toNat → refused 4) ∧
    (copy.toNat ≤ 1 → i.toNat ≤ limit →
      (code = 0 → answers c.lineMap.length (supervisedNodes c.lineMap).length ((c.lineMap[i.toNat]?).map encodePoint)) ∧
      (code = 1 → answers (c.classes.filter Option.isSome).length 0 ((c.classes.getD i.toNat none).map encodeClass)) ∧
      (code = 2 → answers programs steps ((c.seq.programs.getD i.toNat none).map encodeProgram)) ∧
      (code = 3 → answers (s.tables.watch.filter WatchEntry.enabled).length 0 ((s.tables.watch[i.toNat]?).map encodeWatch)) ∧
      (code = 4 → answers programs steps ((c.seq.steps.getD i.toNat none).map encodeStep)))

/-- ADOPT RUN, ABANDON RUN and REPOSITION RUN: their refusals in order, and what each leaves. An adopted run takes the first
free id after the last assigned one, counting to 255 and then from 1. ABANDON RUN of id 0 is OUT OF RANGE in TRANSPARENT too (log entry
42). -/
def Obligations.RunsByRequest : Prop :=
  (∀ (r : Request) (c p : Byte) (s : State), s.serving r 21 [c, p] = true →
    let refused := fun status : Nat => exec .adoptRun s = .next (s.answered r 21 status [])
    let inRange := c.toNat ≤ 7 ∧ p.toNat ≤ 63
    let known := (∃ k, s.classAt c.toNat = some k) ∧
      ∃ x, s.map[p.toNat]? = some x ∧ (x.isTrap = true ∨ x.isDetector = true)
    (s.mgmt.mode = .transparent → refused 5) ∧
    (s.mgmt.mode ≠ .transparent → ¬ inRange → refused 4) ∧
    (s.mgmt.mode ≠ .transparent → inRange → ¬ known → refused 11) ∧
    (s.mgmt.mode ≠ .transparent → inRange → known → 16 ≤ s.tracker.runs.length → refused 12) ∧
    (s.mgmt.mode ≠ .transparent → inRange → known → s.tracker.runs.length < 16 → s.RunsCounted →
      ∃ (x : Run) (place : Nat), exec .adoptRun s =
          .next (({ s with
            tracker := { s.tracker with
              runs := placeRun x s.tracker.runs, lastId := x.id, inserted := s.tracker.inserted + 1#32 }
            log := s.logWith (s.record .runAdopted x.id p.toNat 255 c.toNat) } : State).answered r 21 0
              [byte x.id, byte place]) ∧
        (placeRun x s.tracker.runs)[place]? = some x ∧ (∀ y ∈ s.tracker.runs, y.id ≠ x.id) ∧
        (∃ d, d < 17 ∧ x.id = (s.tracker.lastId + d) % 255 + 1 ∧
          ∀ e, e < d → ∃ y ∈ s.tracker.runs, y.id = (s.tracker.lastId + e) % 255 + 1) ∧
        x = { id := x.id, cls := c.toNat, state := .moving, position := chainMm s.map p.toNat, speed := 0
              slip := (s.classOf c.toNat).slip0, band := (s.classOf c.toNat).band0 * 1000, flowDist := 0
              lastFix := p.toNat, nextDet := nextDetector s.map p.toNat, misses := 0, halted := 0, zoneValve := none
              current := 0#11, accrued := 0#11, alarmed := 0#11, origin := .adopted, bound := none
              insertedAt := s.tracker.clock })) ∧
  (∀ (r : Request) (id : Byte) (s : State), s.serving r 22 [id] = true →
    (id = 0 → exec .abandonRun s = .next (s.answered r 22 4 [])) ∧
    (id ≠ 0 → (∀ y ∈ s.tracker.runs, y.id ≠ id.toNat) → exec .abandonRun s = .next (s.answered r 22 11 [])) ∧
    ∀ x, id ≠ 0 → s.run id.toNat = some x →
      ∃ t : State, exec .abandonRun s = .next (t.answered r 22 0 []) ∧
        t.tracker = { s.tracker with
          runs := s.tracker.runs.filter (fun y => y.id != id.toNat), abandoned := s.tracker.abandoned + 1#32 } ∧
        (∀ k, t.slot k = { s.slot k with
          bound := if (s.slot k).bound = some id.toNat then none else (s.slot k).bound }) ∧
        t.log = s.logWith (s.record .runAbandoned x.id x.lastFix (slotNumber x.bound) 0) ∧
        t.mgmt = s.mgmt ∧ t.interlock = s.interlock ∧ t.portA = s.portA ∧ t.portB = s.portB ∧ t.tables = s.tables ∧
        t.matcher = s.matcher ∧ t.scan = s.scan ∧ t.lines = s.lines ∧ t.fresh = s.fresh ∧ t.pending = s.pending) ∧
  ∀ (r : Request) (id p : Byte) (s : State), s.serving r 23 [id, p] = true →
    let refused := fun status : Nat => exec .repositionRun s = .next (s.answered r 23 status [])
    let pd := chainMm s.map p.toNat
    let isDetector := ∃ x, s.map[p.toNat]? = some x ∧ x.isDetector = true
    (id = 0 ∨ 63 < p.toNat → refused 4) ∧
    (id ≠ 0 → p.toNat ≤ 63 → (∀ y ∈ s.tracker.runs, y.id ≠ id.toNat) → refused 11) ∧
    ∀ ahead x behind, id ≠ 0 → p.toNat ≤ 63 → s.tracker.runs = ahead ++ x :: behind → x.id = id.toNat →
      (∀ y ∈ ahead ++ behind, y.id ≠ x.id) →
      let breaks := (∃ l, ahead.getLast? = some l ∧ l.position < pd) ∨ ∃ f, behind.head? = some f ∧ pd < f.position
      (¬ isDetector → refused 11) ∧ (isDetector → breaks → refused 13) ∧
      (isDetector → ¬ breaks →
        exec .repositionRun s =
          .next (({ s with
            tracker := { s.tracker with runs := ahead ++
              { x with
                position := pd, band := (s.classOf x.cls).band0 * 1000, lastFix := p.toNat
                nextDet := nextDetector s.map p.toNat, misses := 0, halted := 0, flowDist := 0, state := .moving } ::
              behind }
            log := s.logWith (s.record .runRepositioned x.id p.toNat (slotNumber x.bound) x.lastFix) } : State).answered r 23 0
              []))

/-- ARM reserves the valves that its program's OPEN and CLOSE steps name, all or none, and arms the slot; LOAD CHAIN replaces the
chain record; SET PERMIT sets the permit in every state. -/
def Obligations.SlotsAreArmedAndPrepared : Prop :=
  (∀ (r : Request) (k n c m b s1 s0 a : Byte) (s : State), s.serving r 30 [k, n, c, m, b, s1, s0, a] = true →
    let spacing := s1.toNat * 256 + s0.toNat
    let inRange := k.toNat ≤ 3 ∧ n.toNat ≤ 15 ∧ c.toNat ≤ 7 ∧ m.toNat ≤ 2 ∧ 1 ≤ b.toNat ∧ b.toNat ≤ 16 ∧ spacing ≤ 7200 ∧
      a.toNat ≤ 1
    let refused := fun status : Nat => exec .arm s = .next (s.answered r 30 status [])
    (s.mgmt.mode ≠ .guarded → refused 5) ∧
    (s.mgmt.mode = .guarded → ¬ inRange → refused 4) ∧
    ∀ j : SlotId, s.mgmt.mode = .guarded → inRange → j.val = k.toNat →
      ((s.slot j).state ≠ .idle → refused 15) ∧
      ((s.slot j).state = .idle → (s.programAt n.toNat = none ∨ s.classAt c.toNat = none) → refused 11) ∧
      ∀ p cl, (s.slot j).state = .idle → s.programAt n.toNat = some p → s.classAt c.toNat = some cl →
        let named := fun i : Nat => i < 64 ∧ ∃ q o, q < p.count ∧ s.stepAt (p.first + q) = some o ∧
          (o.action = .openValve ∨ o.action = .closeValve) ∧ o.operand = some i
        ((∃ i v, named i ∧ s.valve i = some v ∧ v.reserving ≠ none) → refused 9) ∧
        ((∀ i v, named i → s.valve i = some v → v.reserving = none) →
          ∃ (t : State) (ps : List Nat) (mode : TrainMode), exec .arm s = .next (t.answered r 30 0 []) ∧ (∀ i, i ∈ ps ↔ named i) ∧
            TrainMode.code mode = m.toNat ∧
            t.slot j = { state := .armed, program := some n.toNat, cls := c.toNat, mode := mode, base := b.toNat
                         count := b.toNat, spacing := spacing, autoRepeat := decide (a = 1), chain := none, permit := false
                         endRequested := false, step := none, countdown := 0, order := .none, bound := none
                         reserved := ps, cause := (s.slot j).cause } ∧
            (∀ i, i ≠ j → t.slot i = s.slot i) ∧
            (∀ i v, named i → s.valve i = some v → t.valve i = some { v with reserving := some j }) ∧
            (∀ i, ¬ named i → t.valve i = s.valve i) ∧
            t.tracker = s.tracker ∧ t.log = s.log ∧ t.mgmt = s.mgmt ∧ t.portA = s.portA ∧ t.portB = s.portB ∧
            t.tables = s.tables)) ∧
  (∀ (r : Request) (k present c m b s1 s0 : Byte) (s : State), s.serving r 37 [k, present, c, m, b, s1, s0] = true →
    let spacing := s1.toNat * 256 + s0.toNat
    let inRange := c.toNat ≤ 7 ∧ m.toNat ≤ 2 ∧ 1 ≤ b.toNat ∧ b.toNat ≤ 16 ∧ spacing ≤ 7200
    let refused := fun status : Nat => exec .loadChain s = .next (s.answered r 37 status [])
    (3 < k.toNat ∨ 1 < present.toNat ∨ (present = 1 ∧ ¬ inRange) → refused 4) ∧
    ∀ j : SlotId, j.val = k.toNat → (present = 0 ∨ (present = 1 ∧ inRange)) →
      ((s.slot j).state = .idle → refused 15) ∧
      ((s.slot j).state ≠ .idle → present = 1 → s.classAt c.toNat = none → refused 11) ∧
      ((s.slot j).state ≠ .idle → present = 0 →
        exec .loadChain s = .next ((s.setSlot j { s.slot j with chain := none }).answered r 37 0 [])) ∧
      ∀ (cl : PigClass) (mode : TrainMode), (s.slot j).state ≠ .idle → present = 1 → s.classAt c.toNat = some cl →
        m.toNat = mode.code →
        exec .loadChain s =
          .next ((s.setSlot j { s.slot j with
            chain := some { cls := c.toNat, mode := mode, base := b.toNat, spacing := spacing } }).answered r 37 0 [])) ∧
  ∀ (r : Request) (k on : Byte) (s : State), s.serving r 32 [k, on] = true →
    (3 < k.toNat ∨ 1 < on.toNat → exec .setPermit s = .next (s.answered r 32 4 [])) ∧
    ∀ j : SlotId, j.val = k.toNat → on.toNat ≤ 1 →
      exec .setPermit s = .next ((s.setSlot j { s.slot j with permit := decide (on = 1) }).answered r 32 0 [])

/-- START, END, ABORT, RESUME and RETRY: a slot number above 3, a state that does not take the request, and what each does.
RESUME starts the current step again with its countdown kept; where that step completes, the next is started, here one that
waits. A transmission of the slot's order is carried on, whatever becomes of the slot. The SLOT ENDED record of a slot without a
step carries 255 (log entry 14). -/
def Obligations.SlotRequestsActByState : Prop :=
  (∀ x ∈ ([(.start, 31, [.armed, .waitStart]), (.endTrain, 33, [.running, .spacing, .waitStart]),
      (.abort, 34, [.armed, .running, .spacing, .waitStart, .observe, .failed]), (.resume, 35, [.observe]),
      (.retry, 36, [.failed])] : List (Instr × Nat × List SlotState)),
    ∀ (r : Request) (k : Byte) (s : State), s.serving r x.2.1 [k] = true →
      (3 < k.toNat → exec x.1 s = .next (s.answered r x.2.1 4 [])) ∧
      ∀ j : SlotId, j.val = k.toNat → (s.slot j).state ∉ x.2.2 → exec x.1 s = .next (s.answered r x.2.1 15 [])) ∧
  ∀ (r : Request) (k : SlotId) (s : State),
    let bound := (s.slot k).bound.getD 0
    let step := (s.slot k).step.getD 255
    let running := s.setSlot k { s.slot k with state := .running }
    let left := if (s.order k).elim false (fun o => !o.begun) then none else s.order k
    let rest := fun t : State => t.mgmt = s.mgmt ∧ t.portA = s.portA ∧ t.portB = { s.portB with orders := t.portB.orders } ∧
      t.tables = s.tables ∧ t.matcher = s.matcher ∧ t.scan = s.scan ∧ t.lines = s.lines ∧ t.fresh = s.fresh ∧
      t.pending = s.pending
    (s.serving r 31 [byte k.val] = true → (s.slot k).state = .armed ∨ (s.slot k).state = .waitStart →
      exec .start s = .next ((startStep k (s.firstStepOf k) (s.setSlot k { s.slot k with
        state := .running, permit := (s.slot k).permit || (s.slot k).mode == .permissive })).answered r 31 0 [])) ∧
    (∀ i, s.serving r 36 [byte k.val] = true → (s.slot k).state = .failed → (s.slot k).step = some i →
      exec .retry s = .next ((startStep k i running).answered r 36 0 [])) ∧
    (s.serving r 35 [byte k.val] = true → (s.slot k).state = .observe →
      ((∃ p v, p ∈ (s.slot k).reserved ∧ s.valve p = some v ∧ v.location ≠ .remote) →
        exec .resume s = .next (s.answered r 35 14 [])) ∧
      ∀ i o, (∀ p v, p ∈ (s.slot k).reserved → s.valve p = some v → v.location = .remote) →
        (s.slot k).step = some i → s.stepAt i = some o →
        let resumed := fun u : State => exec .resume s = .next (u.answered r 35 0 [])
        let waits := resumed (s.setSlot k { s.slot k with state := .running, order := .none })
        let next := ∃ n, s.stepAt (i + 1) = some n ∧
          (n.action = .openValve ∨ n.action = .closeValve ∨ n.action = .awaitPassage)
        let point := o.operand.getD 255
        let threshold := chainMm s.map point - o.value * 1000
        let foremost := s.tracker.runs.find? (fun x => decide (x.position < chainMm s.map point) && x.bound.isNone)
        ((o.action = .insertRun ∨ o.action = .removeRun ∨ o.action = .endCycle) → resumed (startStep k i running)) ∧
        ((o.action = .openValve ∨ o.action = .closeValve) →
          resumed ((startStep k i running).updSlot k (fun x => { x with countdown := (s.slot k).countdown }))) ∧
        (o.action = .awaitPassage → waits) ∧
        (o.action = .dwell → ((s.slot k).countdown ≠ 0 → waits) ∧
          ((s.slot k).countdown = 0 → next → resumed (startStep k (i + 1) running))) ∧
        (∀ p st, o.operand = some p →
          (o.action = .verifyOpen ∧ st = .opened) ∨ (o.action = .verifyClosed ∧ st = .closed) →
          (s.believed p st = false → waits) ∧
          (s.believed p st = true → next → resumed (startStep k (i + 1) running))) ∧
        (o.action = .awaitApproach →
          (∀ id x, (s.slot k).bound = some id → s.run id = some x →
            (x.position < threshold → waits) ∧
            (threshold ≤ x.position → next → resumed (startStep k (i + 1) running))) ∧
          ((s.slot k).bound = none → foremost = none → waits) ∧
          ∀ x, (s.slot k).bound = none → foremost = some x →
            (x.position < threshold → waits) ∧
            (threshold ≤ x.position → next →
              resumed (startStep k (i + 1)
                ((running.setSlot k { s.slot k with state := .running, bound := some x.id }).updRun x.id
                  (fun y => { y with bound := some k })))))) ∧
    (s.serving r 33 [byte k.val] = true →
      ((s.slot k).state = .running ∨ (s.slot k).state = .spacing →
        exec .endTrain s = .next ((s.setSlot k { s.slot k with endRequested := true }).answered r 33 0 [])) ∧
      ((s.slot k).state = .waitStart →
        ∃ t : State, exec .endTrain s = .next (t.answered r 33 0 []) ∧
          t.slot k = { s.slot k with
            state := .armed, step := none, countdown := 0, order := .none, endRequested := false
            count := (s.slot k).base, cause := some .endRequest } ∧
          (∀ j, j ≠ k → t.slot j = s.slot j ∧ t.order j = s.order j) ∧ t.order k = left ∧
          t.log = s.logWith (s.record .slotEnded bound (s.trapOf k) k.val (2 * 256 + step)) ∧
          t.tracker = s.tracker ∧ t.interlock = s.interlock ∧ rest t)) ∧
    (s.serving r 34 [byte k.val] = true → (s.slot k).state ≠ .idle →
      ∃ t : State, exec .abort s = .next (t.answered r 34 0 []) ∧
        t.slot k = { s.slot k with
          state := .idle, step := none, countdown := 0, order := .none, permit := false, reserved := []
          endRequested := false, chain := none, count := (s.slot k).base, bound := none, cause := some .abort } ∧
        (∀ j, j ≠ k → t.slot j = s.slot j ∧ t.order j = s.order j) ∧
        t.order k = left ∧
        t.interlock.valves = s.interlock.valves.map (fun v =>
          if v.reserving = some k then { v with reserving := none } else v) ∧
        t.tracker = { s.tracker with runs := s.tracker.runs.map (fun x =>
          if (s.slot k).bound = some x.id then { x with bound := none } else x) } ∧
        t.log = s.logWith (s.record .slotEnded bound (s.trapOf k) k.val (6 * 256 + step)) ∧ rest t)

/-- READ RUN, READ SLOT, READ VALVE, READ NODE and READ FLOW answer every field of the record in the order of Table 10-5, or
NOT FOUND or OUT OF RANGE, and change no record. The program's kind and trap of a slot whose program is no longer defined are
free bytes (log entry 12), of which this says nothing. The place of a node in the record order counts from 0 (log entry 43). -/
def Obligations.RecordsAreRead : Prop :=
  (∀ (r : Request) (sel n : Byte) (s : State), s.serving r 20 [sel, n] = true →
    let refused := fun status : Nat => exec .readRun s = .next (s.answered r 20 status [])
    (1 < sel.toNat ∨ (sel = 0 ∧ 15 < n.toNat) → refused 4) ∧
    (sel = 0 → n.toNat ≤ 15 → s.tracker.runs.length ≤ n.toNat → refused 11) ∧
    (sel = 1 → (∀ y ∈ s.tracker.runs, y.id ≠ n.toNat) → refused 11) ∧
    ∀ (place : Nat) (x : Run), s.tracker.runs[place]? = some x →
      ((sel = 0 ∧ n.toNat = place ∧ place ≤ 15) ∨
       (sel = 1 ∧ x.id = n.toNat ∧ ∀ j y, j < place → s.tracker.runs[j]? = some y → y.id ≠ x.id)) →
      let estimate := match x.nextDet with
        | some d =>
          if x.state ≠ .lost ∧ 0 < x.speed ∧ x.position < chainMm s.map d then
            (chainMm s.map d - x.position + (x.speed - 1)) / x.speed
          else 4294967295
        | none => 4294967295
      exec .readRun s = .next (s.answered r 20 0
        ([byte place, byte x.id, byte x.cls, byte x.state.code] ++ put32 x.position ++ put16 x.speed ++ put16 x.slip ++
          put32 x.band ++ put32 x.flowDist ++ [byte x.lastFix, byte (x.nextDet.getD 255), byte x.misses] ++
          put16 x.halted ++ [byte (x.zoneValve.getD 255)] ++ put16 x.current.toNat ++ put16 x.accrued.toNat ++
          put16 x.alarmed.toNat ++
          [byte (match x.origin with | .launched j => j.val | .adopted => 4), byte (x.bound.elim 255 Fin.val)] ++
          put32 x.insertedAt.toNat ++ put32 estimate))) ∧
  (∀ (r : Request) (k : SlotId) (s : State), s.serving r 38 [byte k.val] = true →
    let x := s.slot k
    ∃ (b0 b1 : Byte) (t : State), exec .readSlot s = .next (t.answered r 38 0
        ([byte k.val, byte x.state.code, byte (x.program.getD 255), byte x.cls, byte x.mode.code, byte x.base, byte x.count] ++
          put16 x.spacing ++ [flagByte x.autoRepeat] ++
          (match x.chain with
            | some c => [1#8, byte c.cls, byte c.mode.code, byte c.base] ++ put16 c.spacing
            | none => [0#8, 0#8, 0#8, 0#8, 0#8, 0#8]) ++
          [flagByte x.permit, flagByte x.endRequested, byte (x.step.getD 255)] ++ put16 x.countdown ++
          [byte x.order.code, byte (x.bound.getD 0)] ++ pointSetBytes x.reserved ++
          [byte (x.cause.elim 0 Cause.code), b0, b1])) ∧
      t = { s with fresh := t.fresh } ∧
      (x.program = none → b0 = 0 ∧ b1 = 0 ∧ t = s) ∧
      ∀ n p, x.program = some n → s.programAt n = some p → b0 = byte p.kind.code ∧ b1 = byte p.trap ∧ t = s) ∧
  (∀ (r : Request) (k : Byte) (s : State), s.serving r 38 [k] = true → 3 < k.toNat →
    exec .readSlot s = .next (s.answered r 38 4 [])) ∧
  (∀ (r : Request) (p : Byte) (s : State), s.serving r 40 [p] = true →
    (63 < p.toNat → exec .readValve s = .next (s.answered r 40 4 [])) ∧
    (p.toNat ≤ 63 → s.valve p.toNat = none → exec .readValve s = .next (s.answered r 40 11 [])) ∧
    ∀ v part, p.toNat ≤ 63 → s.valve p.toNat = some v → valvePart s.map p.toNat = some part →
      exec .readValve s = .next (s.answered r 40 0
        ([p, byte v.state.code, byte v.percent, byte v.location.code, byte v.lastTag, flagByte v.suspect] ++
          (match v.expected with
            | some e => [1#8, byte e.target.code] ++ put16 e.remaining ++
                [match e.originator with | .control => 4#8 | .slot j => byte j.val]
            | none => [0#8, 0#8, 0#8, 0#8, 255#8]) ++
          [byte (v.reserving.elim 255 Fin.val), byte part.role.code] ++ put16 part.travel))) ∧
  (∀ (r : Request) (n : Byte) (s : State), s.serving r 41 [n] = true →
    (n = 0 ∨ 126 < n.toNat → exec .readNode s = .next (s.answered r 41 4 [])) ∧
    (n ≠ 0 → n.toNat ≤ 126 → (∀ y ∈ s.scan.nodes, y.node ≠ n.toNat) →
      exec .readNode s = .next (s.answered r 41 11 [])) ∧
    ∀ before x after, n ≠ 0 → n.toNat ≤ 126 → s.scan.nodes = before ++ x :: after → x.node = n.toNat →
      (∀ y ∈ before, y.node ≠ n.toNat) →
      exec .readNode s = .next (s.answered r 41 0
        ([n, flagByte x.heard, byte x.missed, flagByte x.silent, byte x.health.code, byte before.length,
          flagByte (s.scan.pollList.contains n.toNat), byte s.scan.nodes.length] ++
          put16 s.mgmt.config.scanInterval ++ put16 s.scan.countdown))) ∧
  ∀ (r : Request) (p : Byte) (s : State), s.serving r 42 [p] = true →
    (63 < p.toNat → exec .readFlow s = .next (s.answered r 42 4 [])) ∧
    (p.toNat ≤ 63 → s.flow p.toNat = none → exec .readFlow s = .next (s.answered r 42 11 [])) ∧
    ∀ f hold, p.toNat ≤ 63 → s.flow p.toNat = some f → meterHold s.map p.toNat = some hold →
      exec .readFlow s = .next (s.answered r 42 0
        ([p] ++ put16 f.q ++ [byte f.state.code, flagByte f.rev] ++ put16 f.age ++ put16 hold))

/-- READ LOG answers the records of a circle by age, oldest first: from the first place while the circle is not full, and from
the write index once it is. LOG RESUME unfreezes the log, and with EMPTY empties every circle. -/
def Obligations.LogIsReadAndResumed : Prop :=
  (∀ (r : Request) (c start n : Byte) (s : State), s.serving r 46 [c, start, n] = true →
    let refused := fun status : Nat => exec .readLog s = .next (s.answered r 46 status [])
    let mode := s.mgmt.config.logMode
    let answers := fun (circle : Machine.Circle) (base cap : Nat) =>
      let oldest := if circle.valid < cap then 0 else circle.write
      let records := (List.range (n.toNat + 1)).filterMap (fun j =>
        if start.toNat + j < circle.valid then s.log.places.getD (base + (oldest + (start.toNat + j)) % cap) none
        else none)
      exec .readLog s = .next (s.answered r 46 0
        ([byte mode.code, flagByte s.log.frozen] ++ put16 circle.valid ++ [byte circle.write, byte records.length] ++
          records.flatMap encodeRecord))
    (2 < c.toNat ∨ 3 < n.toNat → refused 4) ∧
    (c.toNat ≤ 2 → n.toNat ≤ 3 →
      (mode = .mixed → (c = 0 → answers s.log.lower 0 128) ∧ (c = 1 → answers s.log.upper 128 128) ∧ (c = 2 → refused 5)) ∧
      (mode = .track ∨ mode = .traffic → (c = 2 → answers s.log.whole 0 256) ∧ (c ≠ 2 → refused 5)) ∧
      (mode = .off →
        exec .readLog s = .next (s.answered r 46 0 [0#8, flagByte s.log.frozen, 0#8, 0#8, 0#8, 0#8])))) ∧
  ∀ (r : Request) (a : Byte) (s : State), s.serving r 47 [a] = true →
    (1 < a.toNat → exec .logResume s = .next (s.answered r 47 4 [])) ∧
    (a = 0 → exec .logResume s = .next (({ s with log := { s.log with frozen := false } } : State).answered r 47 0 [])) ∧
    (a = 1 →
      exec .logResume s =
        .next (({ s with log :=
          { s.log with lower := ⟨0, 0⟩, upper := ⟨0, 0⟩, whole := ⟨0, 0⟩, frozen := false } } : State).answered r 47 0 []))

/-! ### Invariants -/

/-- Every command keeps every queue within its capacity and the burst count at most 2, from every state in which they are. -/
def Obligations.QueuesStayBounded : Prop :=
  ∀ (c : Instr) (s t : State), s.QueuesBounded → exec c s = .next t → t.QueuesBounded

/-- In GUARDED, Port B puts no CLOSE order to a MAINLINE valve on the link while a run stands in the valve's zone. What holds
Port B keeps its kind. -/
def Obligations.NoCloseIntoAnOccupiedZone : Prop :=
  ∀ (c : Instr) (s t : State), s.SourcesSound → exec c s = .next t →
    t.SourcesSound ∧
    (s.mgmt.mode = .guarded →
      ∀ f, Wire.telegram f ∈ t.portB.link.wire.drop s.portB.link.wire.length →
        frameKind f = 17 → 2 ≤ (framePayload f).length → byteAt (framePayload f) 0 = 2 →
        ∀ p part, valveOfNode s.map (frameDest f) = some p → valvePart s.map p = some part → part.role = .mainline →
          ∀ r ∈ s.tracker.runs, ¬ (chainMm s.map p - part.approach * 1000 ≤ r.position ∧
            r.position ≤ chainMm s.map p + part.clearance * 1000))

/-- Every command keeps the run table at no more than 16 runs with different ids from 1 to 255, in the number that the four
counters give. -/
def Obligations.RunsStayCounted : Prop :=
  ∀ (c : Instr) (s t : State), s.RunsCounted → exec c s = .next t → t.RunsCounted

/-- Every command keeps the run table in order of position, leader first, and every run between its last fix and the END point.
The run table is empty and the slots are IDLE while a Line Map commit is pending. -/
def Obligations.RunsStayOrdered : Prop :=
  ∀ (c : Instr) (s t : State), s.RunsOrdered → exec c s = .next t → t.RunsOrdered

/-- Every command keeps the class of every run and of every active slot defined, and slip and band of every run within the
limits of its class. -/
def Obligations.RunsStayWithinTheirClass : Prop :=
  ∀ (c : Instr) (s t : State), s.RunsWithinClass → exec c s = .next t → t.RunsWithinClass

/-- Every command keeps the bindings mirrored, slot to run and run to slot; and every command keeps the slots IDLE outside
GUARDED. -/
def Obligations.BindingsStayMirrored : Prop :=
  (∀ (c : Instr) (s t : State), s.BindingsMirrored → exec c s = .next t → t.BindingsMirrored) ∧
  ∀ (c : Instr) (s t : State), s.SlotsIdleOutsideGuarded → exec c s = .next t → t.SlotsIdleOutsideGuarded

/-- Every command keeps one record per point and supervised node of the active map, and the poll list within the nodes. -/
def Obligations.RecordsStayMapped : Prop :=
  ∀ (c : Instr) (s t : State), s.RecordsFollowMap → exec c s = .next t → t.RecordsFollowMap

/-- Every command keeps the log's circles sound, each with records of its own class alone. -/
def Obligations.LogStaysSound : Prop :=
  ∀ (c : Instr) (s t : State), s.LogSound → exec c s = .next t → t.LogSound

/-- Every invariant holds right after reset. -/
def Obligations.InvariantsHoldAtReset : Prop :=
  State.reset.QueuesBounded ∧ State.reset.SourcesSound ∧ State.reset.RunsCounted ∧ State.reset.RunsOrdered ∧
  State.reset.RunsWithinClass ∧ State.reset.BindingsMirrored ∧ State.reset.SlotsIdleOutsideGuarded ∧
  State.reset.RecordsFollowMap ∧ State.reset.LogSound
end

