-- ==== Sys2Proof/Laws/State.lean ====
section
/-! SUPPORT. The small lemmas of the state's updates: what each leaves of every block, and reading a slot, a place or a link
after writing one. -/

namespace Sys2Proof.Machine

variable (s : State)

/-! `State.setRuns` -/

@[simp] theorem State.setRuns_tables (rs : List Run) : (s.setRuns rs).tables = s.tables := rfl
@[simp] theorem State.setRuns_tracker (rs : List Run) : (s.setRuns rs).tracker = { s.tracker with runs := rs } := rfl
@[simp] theorem State.setRuns_matcher (rs : List Run) : (s.setRuns rs).matcher = s.matcher := rfl
@[simp] theorem State.setRuns_interlock (rs : List Run) : (s.setRuns rs).interlock = s.interlock := rfl
@[simp] theorem State.setRuns_seq (rs : List Run) : (s.setRuns rs).seq = s.seq := rfl
@[simp] theorem State.setRuns_scan (rs : List Run) : (s.setRuns rs).scan = s.scan := rfl
@[simp] theorem State.setRuns_log (rs : List Run) : (s.setRuns rs).log = s.log := rfl
@[simp] theorem State.setRuns_mgmt (rs : List Run) : (s.setRuns rs).mgmt = s.mgmt := rfl
@[simp] theorem State.setRuns_portA (rs : List Run) : (s.setRuns rs).portA = s.portA := rfl
@[simp] theorem State.setRuns_portB (rs : List Run) : (s.setRuns rs).portB = s.portB := rfl
@[simp] theorem State.setRuns_lines (rs : List Run) : (s.setRuns rs).lines = s.lines := rfl
@[simp] theorem State.setRuns_fresh (rs : List Run) : (s.setRuns rs).fresh = s.fresh := rfl
@[simp] theorem State.setRuns_pending (rs : List Run) : (s.setRuns rs).pending = s.pending := rfl

/-! `State.setFlows` -/

@[simp] theorem State.setFlows_tables (fs : List FlowRec) : (s.setFlows fs).tables = s.tables := rfl
@[simp] theorem State.setFlows_tracker (fs : List FlowRec) : (s.setFlows fs).tracker = { s.tracker with flows := fs } := rfl
@[simp] theorem State.setFlows_matcher (fs : List FlowRec) : (s.setFlows fs).matcher = s.matcher := rfl
@[simp] theorem State.setFlows_interlock (fs : List FlowRec) : (s.setFlows fs).interlock = s.interlock := rfl
@[simp] theorem State.setFlows_seq (fs : List FlowRec) : (s.setFlows fs).seq = s.seq := rfl
@[simp] theorem State.setFlows_scan (fs : List FlowRec) : (s.setFlows fs).scan = s.scan := rfl
@[simp] theorem State.setFlows_log (fs : List FlowRec) : (s.setFlows fs).log = s.log := rfl
@[simp] theorem State.setFlows_mgmt (fs : List FlowRec) : (s.setFlows fs).mgmt = s.mgmt := rfl
@[simp] theorem State.setFlows_portA (fs : List FlowRec) : (s.setFlows fs).portA = s.portA := rfl
@[simp] theorem State.setFlows_portB (fs : List FlowRec) : (s.setFlows fs).portB = s.portB := rfl
@[simp] theorem State.setFlows_lines (fs : List FlowRec) : (s.setFlows fs).lines = s.lines := rfl
@[simp] theorem State.setFlows_fresh (fs : List FlowRec) : (s.setFlows fs).fresh = s.fresh := rfl
@[simp] theorem State.setFlows_pending (fs : List FlowRec) : (s.setFlows fs).pending = s.pending := rfl

/-! `State.setClock` -/

@[simp] theorem State.setClock_tables (t : Nat) : (s.setClock t).tables = s.tables := rfl
@[simp] theorem State.setClock_tracker (t : Nat) : (s.setClock t).tracker = { s.tracker with clock := BitVec.ofNat 32 t } :=
  rfl
@[simp] theorem State.setClock_matcher (t : Nat) : (s.setClock t).matcher = s.matcher := rfl
@[simp] theorem State.setClock_interlock (t : Nat) : (s.setClock t).interlock = s.interlock := rfl
@[simp] theorem State.setClock_seq (t : Nat) : (s.setClock t).seq = s.seq := rfl
@[simp] theorem State.setClock_scan (t : Nat) : (s.setClock t).scan = s.scan := rfl
@[simp] theorem State.setClock_log (t : Nat) : (s.setClock t).log = s.log := rfl
@[simp] theorem State.setClock_mgmt (t : Nat) : (s.setClock t).mgmt = s.mgmt := rfl
@[simp] theorem State.setClock_portA (t : Nat) : (s.setClock t).portA = s.portA := rfl
@[simp] theorem State.setClock_portB (t : Nat) : (s.setClock t).portB = s.portB := rfl
@[simp] theorem State.setClock_lines (t : Nat) : (s.setClock t).lines = s.lines := rfl
@[simp] theorem State.setClock_fresh (t : Nat) : (s.setClock t).fresh = s.fresh := rfl
@[simp] theorem State.setClock_pending (t : Nat) : (s.setClock t).pending = s.pending := rfl

/-! `State.setDetectors` -/

@[simp] theorem State.setDetectors_tables (ds : List DetectorRec) : (s.setDetectors ds).tables = s.tables := rfl
@[simp] theorem State.setDetectors_tracker (ds : List DetectorRec) : (s.setDetectors ds).tracker = s.tracker := rfl
@[simp] theorem State.setDetectors_matcher (ds : List DetectorRec) : (s.setDetectors ds).matcher = { detectors := ds } :=
  rfl
@[simp] theorem State.setDetectors_interlock (ds : List DetectorRec) : (s.setDetectors ds).interlock = s.interlock := rfl
@[simp] theorem State.setDetectors_seq (ds : List DetectorRec) : (s.setDetectors ds).seq = s.seq := rfl
@[simp] theorem State.setDetectors_scan (ds : List DetectorRec) : (s.setDetectors ds).scan = s.scan := rfl
@[simp] theorem State.setDetectors_log (ds : List DetectorRec) : (s.setDetectors ds).log = s.log := rfl
@[simp] theorem State.setDetectors_mgmt (ds : List DetectorRec) : (s.setDetectors ds).mgmt = s.mgmt := rfl
@[simp] theorem State.setDetectors_portA (ds : List DetectorRec) : (s.setDetectors ds).portA = s.portA := rfl
@[simp] theorem State.setDetectors_portB (ds : List DetectorRec) : (s.setDetectors ds).portB = s.portB := rfl
@[simp] theorem State.setDetectors_lines (ds : List DetectorRec) : (s.setDetectors ds).lines = s.lines := rfl
@[simp] theorem State.setDetectors_fresh (ds : List DetectorRec) : (s.setDetectors ds).fresh = s.fresh := rfl
@[simp] theorem State.setDetectors_pending (ds : List DetectorRec) : (s.setDetectors ds).pending = s.pending := rfl

/-! `State.setValves` -/

@[simp] theorem State.setValves_tables (vs : List ValveRec) : (s.setValves vs).tables = s.tables := rfl
@[simp] theorem State.setValves_tracker (vs : List ValveRec) : (s.setValves vs).tracker = s.tracker := rfl
@[simp] theorem State.setValves_matcher (vs : List ValveRec) : (s.setValves vs).matcher = s.matcher := rfl
@[simp] theorem State.setValves_interlock (vs : List ValveRec) : (s.setValves vs).interlock = { valves := vs } := rfl
@[simp] theorem State.setValves_seq (vs : List ValveRec) : (s.setValves vs).seq = s.seq := rfl
@[simp] theorem State.setValves_scan (vs : List ValveRec) : (s.setValves vs).scan = s.scan := rfl
@[simp] theorem State.setValves_log (vs : List ValveRec) : (s.setValves vs).log = s.log := rfl
@[simp] theorem State.setValves_mgmt (vs : List ValveRec) : (s.setValves vs).mgmt = s.mgmt := rfl
@[simp] theorem State.setValves_portA (vs : List ValveRec) : (s.setValves vs).portA = s.portA := rfl
@[simp] theorem State.setValves_portB (vs : List ValveRec) : (s.setValves vs).portB = s.portB := rfl
@[simp] theorem State.setValves_lines (vs : List ValveRec) : (s.setValves vs).lines = s.lines := rfl
@[simp] theorem State.setValves_fresh (vs : List ValveRec) : (s.setValves vs).fresh = s.fresh := rfl
@[simp] theorem State.setValves_pending (vs : List ValveRec) : (s.setValves vs).pending = s.pending := rfl

/-! `State.setNodes` -/

@[simp] theorem State.setNodes_tables (ns : List NodeRec) : (s.setNodes ns).tables = s.tables := rfl
@[simp] theorem State.setNodes_tracker (ns : List NodeRec) : (s.setNodes ns).tracker = s.tracker := rfl
@[simp] theorem State.setNodes_matcher (ns : List NodeRec) : (s.setNodes ns).matcher = s.matcher := rfl
@[simp] theorem State.setNodes_interlock (ns : List NodeRec) : (s.setNodes ns).interlock = s.interlock := rfl
@[simp] theorem State.setNodes_seq (ns : List NodeRec) : (s.setNodes ns).seq = s.seq := rfl
@[simp] theorem State.setNodes_scan (ns : List NodeRec) : (s.setNodes ns).scan = { s.scan with nodes := ns } := rfl
@[simp] theorem State.setNodes_log (ns : List NodeRec) : (s.setNodes ns).log = s.log := rfl
@[simp] theorem State.setNodes_mgmt (ns : List NodeRec) : (s.setNodes ns).mgmt = s.mgmt := rfl
@[simp] theorem State.setNodes_portA (ns : List NodeRec) : (s.setNodes ns).portA = s.portA := rfl
@[simp] theorem State.setNodes_portB (ns : List NodeRec) : (s.setNodes ns).portB = s.portB := rfl
@[simp] theorem State.setNodes_lines (ns : List NodeRec) : (s.setNodes ns).lines = s.lines := rfl
@[simp] theorem State.setNodes_fresh (ns : List NodeRec) : (s.setNodes ns).fresh = s.fresh := rfl
@[simp] theorem State.setNodes_pending (ns : List NodeRec) : (s.setNodes ns).pending = s.pending := rfl

/-! `State.setPollList` -/

@[simp] theorem State.setPollList_tables (ps : List Nat) : (s.setPollList ps).tables = s.tables := rfl
@[simp] theorem State.setPollList_tracker (ps : List Nat) : (s.setPollList ps).tracker = s.tracker := rfl
@[simp] theorem State.setPollList_matcher (ps : List Nat) : (s.setPollList ps).matcher = s.matcher := rfl
@[simp] theorem State.setPollList_interlock (ps : List Nat) : (s.setPollList ps).interlock = s.interlock := rfl
@[simp] theorem State.setPollList_seq (ps : List Nat) : (s.setPollList ps).seq = s.seq := rfl
@[simp] theorem State.setPollList_scan (ps : List Nat) : (s.setPollList ps).scan = { s.scan with pollList := ps } := rfl
@[simp] theorem State.setPollList_log (ps : List Nat) : (s.setPollList ps).log = s.log := rfl
@[simp] theorem State.setPollList_mgmt (ps : List Nat) : (s.setPollList ps).mgmt = s.mgmt := rfl
@[simp] theorem State.setPollList_portA (ps : List Nat) : (s.setPollList ps).portA = s.portA := rfl
@[simp] theorem State.setPollList_portB (ps : List Nat) : (s.setPollList ps).portB = s.portB := rfl
@[simp] theorem State.setPollList_lines (ps : List Nat) : (s.setPollList ps).lines = s.lines := rfl
@[simp] theorem State.setPollList_fresh (ps : List Nat) : (s.setPollList ps).fresh = s.fresh := rfl
@[simp] theorem State.setPollList_pending (ps : List Nat) : (s.setPollList ps).pending = s.pending := rfl

/-! `State.setScanCountdown` -/

@[simp] theorem State.setScanCountdown_tables (n : Nat) : (s.setScanCountdown n).tables = s.tables := rfl
@[simp] theorem State.setScanCountdown_tracker (n : Nat) : (s.setScanCountdown n).tracker = s.tracker := rfl
@[simp] theorem State.setScanCountdown_matcher (n : Nat) : (s.setScanCountdown n).matcher = s.matcher := rfl
@[simp] theorem State.setScanCountdown_interlock (n : Nat) : (s.setScanCountdown n).interlock = s.interlock := rfl
@[simp] theorem State.setScanCountdown_seq (n : Nat) : (s.setScanCountdown n).seq = s.seq := rfl
@[simp] theorem State.setScanCountdown_scan (n : Nat) : (s.setScanCountdown n).scan = { s.scan with countdown := n } := rfl
@[simp] theorem State.setScanCountdown_log (n : Nat) : (s.setScanCountdown n).log = s.log := rfl
@[simp] theorem State.setScanCountdown_mgmt (n : Nat) : (s.setScanCountdown n).mgmt = s.mgmt := rfl
@[simp] theorem State.setScanCountdown_portA (n : Nat) : (s.setScanCountdown n).portA = s.portA := rfl
@[simp] theorem State.setScanCountdown_portB (n : Nat) : (s.setScanCountdown n).portB = s.portB := rfl
@[simp] theorem State.setScanCountdown_lines (n : Nat) : (s.setScanCountdown n).lines = s.lines := rfl
@[simp] theorem State.setScanCountdown_fresh (n : Nat) : (s.setScanCountdown n).fresh = s.fresh := rfl
@[simp] theorem State.setScanCountdown_pending (n : Nat) : (s.setScanCountdown n).pending = s.pending := rfl

/-! `State.setSlot` -/

@[simp] theorem State.setSlot_tables (k : SlotId) (r : Slot) : (s.setSlot k r).tables = s.tables := rfl
@[simp] theorem State.setSlot_tracker (k : SlotId) (r : Slot) : (s.setSlot k r).tracker = s.tracker := rfl
@[simp] theorem State.setSlot_matcher (k : SlotId) (r : Slot) : (s.setSlot k r).matcher = s.matcher := rfl
@[simp] theorem State.setSlot_interlock (k : SlotId) (r : Slot) : (s.setSlot k r).interlock = s.interlock := rfl
@[simp] theorem State.setSlot_seq (k : SlotId) (r : Slot) : (s.setSlot k r).seq = { slots := s.seq.slots.set k r } := rfl
@[simp] theorem State.setSlot_scan (k : SlotId) (r : Slot) : (s.setSlot k r).scan = s.scan := rfl
@[simp] theorem State.setSlot_log (k : SlotId) (r : Slot) : (s.setSlot k r).log = s.log := rfl
@[simp] theorem State.setSlot_mgmt (k : SlotId) (r : Slot) : (s.setSlot k r).mgmt = s.mgmt := rfl
@[simp] theorem State.setSlot_portA (k : SlotId) (r : Slot) : (s.setSlot k r).portA = s.portA := rfl
@[simp] theorem State.setSlot_portB (k : SlotId) (r : Slot) : (s.setSlot k r).portB = s.portB := rfl
@[simp] theorem State.setSlot_lines (k : SlotId) (r : Slot) : (s.setSlot k r).lines = s.lines := rfl
@[simp] theorem State.setSlot_fresh (k : SlotId) (r : Slot) : (s.setSlot k r).fresh = s.fresh := rfl
@[simp] theorem State.setSlot_pending (k : SlotId) (r : Slot) : (s.setSlot k r).pending = s.pending := rfl

/-! `State.setOrder` -/

@[simp] theorem State.setOrder_tables (k : SlotId) (o : Option SlotOrder) : (s.setOrder k o).tables = s.tables := rfl
@[simp] theorem State.setOrder_tracker (k : SlotId) (o : Option SlotOrder) : (s.setOrder k o).tracker = s.tracker := rfl
@[simp] theorem State.setOrder_matcher (k : SlotId) (o : Option SlotOrder) : (s.setOrder k o).matcher = s.matcher := rfl
@[simp] theorem State.setOrder_interlock (k : SlotId) (o : Option SlotOrder) : (s.setOrder k o).interlock = s.interlock :=
  rfl
@[simp] theorem State.setOrder_seq (k : SlotId) (o : Option SlotOrder) : (s.setOrder k o).seq = s.seq := rfl
@[simp] theorem State.setOrder_scan (k : SlotId) (o : Option SlotOrder) : (s.setOrder k o).scan = s.scan := rfl
@[simp] theorem State.setOrder_log (k : SlotId) (o : Option SlotOrder) : (s.setOrder k o).log = s.log := rfl
@[simp] theorem State.setOrder_mgmt (k : SlotId) (o : Option SlotOrder) : (s.setOrder k o).mgmt = s.mgmt := rfl
@[simp] theorem State.setOrder_portA (k : SlotId) (o : Option SlotOrder) : (s.setOrder k o).portA = s.portA := rfl
@[simp] theorem State.setOrder_portB (k : SlotId) (o : Option SlotOrder) : (s.setOrder k o).portB = { s.portB with orders := s.portB.orders.set k o } :=
  rfl
@[simp] theorem State.setOrder_lines (k : SlotId) (o : Option SlotOrder) : (s.setOrder k o).lines = s.lines := rfl
@[simp] theorem State.setOrder_fresh (k : SlotId) (o : Option SlotOrder) : (s.setOrder k o).fresh = s.fresh := rfl
@[simp] theorem State.setOrder_pending (k : SlotId) (o : Option SlotOrder) : (s.setOrder k o).pending = s.pending := rfl

/-! `State.setDown` -/

@[simp] theorem State.setDown_tables (q : List Frame) : (s.setDown q).tables = s.tables := rfl
@[simp] theorem State.setDown_tracker (q : List Frame) : (s.setDown q).tracker = s.tracker := rfl
@[simp] theorem State.setDown_matcher (q : List Frame) : (s.setDown q).matcher = s.matcher := rfl
@[simp] theorem State.setDown_interlock (q : List Frame) : (s.setDown q).interlock = s.interlock := rfl
@[simp] theorem State.setDown_seq (q : List Frame) : (s.setDown q).seq = s.seq := rfl
@[simp] theorem State.setDown_scan (q : List Frame) : (s.setDown q).scan = s.scan := rfl
@[simp] theorem State.setDown_log (q : List Frame) : (s.setDown q).log = s.log := rfl
@[simp] theorem State.setDown_mgmt (q : List Frame) : (s.setDown q).mgmt = s.mgmt := rfl
@[simp] theorem State.setDown_portA (q : List Frame) : (s.setDown q).portA = { s.portA with down := q } := rfl
@[simp] theorem State.setDown_portB (q : List Frame) : (s.setDown q).portB = s.portB := rfl
@[simp] theorem State.setDown_lines (q : List Frame) : (s.setDown q).lines = s.lines := rfl
@[simp] theorem State.setDown_fresh (q : List Frame) : (s.setDown q).fresh = s.fresh := rfl
@[simp] theorem State.setDown_pending (q : List Frame) : (s.setDown q).pending = s.pending := rfl

/-! `State.setAnswers` -/

@[simp] theorem State.setAnswers_tables (q : List Answer) : (s.setAnswers q).tables = s.tables := rfl
@[simp] theorem State.setAnswers_tracker (q : List Answer) : (s.setAnswers q).tracker = s.tracker := rfl
@[simp] theorem State.setAnswers_matcher (q : List Answer) : (s.setAnswers q).matcher = s.matcher := rfl
@[simp] theorem State.setAnswers_interlock (q : List Answer) : (s.setAnswers q).interlock = s.interlock := rfl
@[simp] theorem State.setAnswers_seq (q : List Answer) : (s.setAnswers q).seq = s.seq := rfl
@[simp] theorem State.setAnswers_scan (q : List Answer) : (s.setAnswers q).scan = s.scan := rfl
@[simp] theorem State.setAnswers_log (q : List Answer) : (s.setAnswers q).log = s.log := rfl
@[simp] theorem State.setAnswers_mgmt (q : List Answer) : (s.setAnswers q).mgmt = s.mgmt := rfl
@[simp] theorem State.setAnswers_portA (q : List Answer) : (s.setAnswers q).portA = { s.portA with answers := q } := rfl
@[simp] theorem State.setAnswers_portB (q : List Answer) : (s.setAnswers q).portB = s.portB := rfl
@[simp] theorem State.setAnswers_lines (q : List Answer) : (s.setAnswers q).lines = s.lines := rfl
@[simp] theorem State.setAnswers_fresh (q : List Answer) : (s.setAnswers q).fresh = s.fresh := rfl
@[simp] theorem State.setAnswers_pending (q : List Answer) : (s.setAnswers q).pending = s.pending := rfl

/-! `State.setAlert` -/

@[simp] theorem State.setAlert_tables (a : Option Alert) : (s.setAlert a).tables = s.tables := rfl
@[simp] theorem State.setAlert_tracker (a : Option Alert) : (s.setAlert a).tracker = s.tracker := rfl
@[simp] theorem State.setAlert_matcher (a : Option Alert) : (s.setAlert a).matcher = s.matcher := rfl
@[simp] theorem State.setAlert_interlock (a : Option Alert) : (s.setAlert a).interlock = s.interlock := rfl
@[simp] theorem State.setAlert_seq (a : Option Alert) : (s.setAlert a).seq = s.seq := rfl
@[simp] theorem State.setAlert_scan (a : Option Alert) : (s.setAlert a).scan = s.scan := rfl
@[simp] theorem State.setAlert_log (a : Option Alert) : (s.setAlert a).log = s.log := rfl
@[simp] theorem State.setAlert_mgmt (a : Option Alert) : (s.setAlert a).mgmt = s.mgmt := rfl
@[simp] theorem State.setAlert_portA (a : Option Alert) : (s.setAlert a).portA = { s.portA with alert := a } := rfl
@[simp] theorem State.setAlert_portB (a : Option Alert) : (s.setAlert a).portB = s.portB := rfl
@[simp] theorem State.setAlert_lines (a : Option Alert) : (s.setAlert a).lines = s.lines := rfl
@[simp] theorem State.setAlert_fresh (a : Option Alert) : (s.setAlert a).fresh = s.fresh := rfl
@[simp] theorem State.setAlert_pending (a : Option Alert) : (s.setAlert a).pending = s.pending := rfl

/-! `State.setUp` -/

@[simp] theorem State.setUp_tables (q : List Frame) : (s.setUp q).tables = s.tables := rfl
@[simp] theorem State.setUp_tracker (q : List Frame) : (s.setUp q).tracker = s.tracker := rfl
@[simp] theorem State.setUp_matcher (q : List Frame) : (s.setUp q).matcher = s.matcher := rfl
@[simp] theorem State.setUp_interlock (q : List Frame) : (s.setUp q).interlock = s.interlock := rfl
@[simp] theorem State.setUp_seq (q : List Frame) : (s.setUp q).seq = s.seq := rfl
@[simp] theorem State.setUp_scan (q : List Frame) : (s.setUp q).scan = s.scan := rfl
@[simp] theorem State.setUp_log (q : List Frame) : (s.setUp q).log = s.log := rfl
@[simp] theorem State.setUp_mgmt (q : List Frame) : (s.setUp q).mgmt = s.mgmt := rfl
@[simp] theorem State.setUp_portA (q : List Frame) : (s.setUp q).portA = s.portA := rfl
@[simp] theorem State.setUp_portB (q : List Frame) : (s.setUp q).portB = { s.portB with up := q } := rfl
@[simp] theorem State.setUp_lines (q : List Frame) : (s.setUp q).lines = s.lines := rfl
@[simp] theorem State.setUp_fresh (q : List Frame) : (s.setUp q).fresh = s.fresh := rfl
@[simp] theorem State.setUp_pending (q : List Frame) : (s.setUp q).pending = s.pending := rfl

/-! `State.setInput` -/

@[simp] theorem State.setInput_tables (v : Option Service) (w : Option Request) : (s.setInput v w).tables = s.tables := rfl
@[simp] theorem State.setInput_tracker (v : Option Service) (w : Option Request) : (s.setInput v w).tracker = s.tracker :=
  rfl
@[simp] theorem State.setInput_matcher (v : Option Service) (w : Option Request) : (s.setInput v w).matcher = s.matcher :=
  rfl
@[simp] theorem State.setInput_interlock (v : Option Service) (w : Option Request) : (s.setInput v w).interlock = s.interlock :=
  rfl
@[simp] theorem State.setInput_seq (v : Option Service) (w : Option Request) : (s.setInput v w).seq = s.seq := rfl
@[simp] theorem State.setInput_scan (v : Option Service) (w : Option Request) : (s.setInput v w).scan = s.scan := rfl
@[simp] theorem State.setInput_log (v : Option Service) (w : Option Request) : (s.setInput v w).log = s.log := rfl
@[simp] theorem State.setInput_mgmt (v : Option Service) (w : Option Request) : (s.setInput v w).mgmt = { s.mgmt with service := v, waiting := w } :=
  rfl
@[simp] theorem State.setInput_portA (v : Option Service) (w : Option Request) : (s.setInput v w).portA = s.portA := rfl
@[simp] theorem State.setInput_portB (v : Option Service) (w : Option Request) : (s.setInput v w).portB = s.portB := rfl
@[simp] theorem State.setInput_lines (v : Option Service) (w : Option Request) : (s.setInput v w).lines = s.lines := rfl
@[simp] theorem State.setInput_fresh (v : Option Service) (w : Option Request) : (s.setInput v w).fresh = s.fresh := rfl
@[simp] theorem State.setInput_pending (v : Option Service) (w : Option Request) : (s.setInput v w).pending = s.pending :=
  rfl

/-! `State.setMode` -/

@[simp] theorem State.setMode_tables (m : Mode) : (s.setMode m).tables = s.tables := rfl
@[simp] theorem State.setMode_tracker (m : Mode) : (s.setMode m).tracker = s.tracker := rfl
@[simp] theorem State.setMode_matcher (m : Mode) : (s.setMode m).matcher = s.matcher := rfl
@[simp] theorem State.setMode_interlock (m : Mode) : (s.setMode m).interlock = s.interlock := rfl
@[simp] theorem State.setMode_seq (m : Mode) : (s.setMode m).seq = s.seq := rfl
@[simp] theorem State.setMode_scan (m : Mode) : (s.setMode m).scan = s.scan := rfl
@[simp] theorem State.setMode_log (m : Mode) : (s.setMode m).log = s.log := rfl
@[simp] theorem State.setMode_mgmt (m : Mode) : (s.setMode m).mgmt = { s.mgmt with mode := m } := rfl
@[simp] theorem State.setMode_portA (m : Mode) : (s.setMode m).portA = s.portA := rfl
@[simp] theorem State.setMode_portB (m : Mode) : (s.setMode m).portB = s.portB := rfl
@[simp] theorem State.setMode_lines (m : Mode) : (s.setMode m).lines = s.lines := rfl
@[simp] theorem State.setMode_fresh (m : Mode) : (s.setMode m).fresh = s.fresh := rfl
@[simp] theorem State.setMode_pending (m : Mode) : (s.setMode m).pending = s.pending := rfl

/-! `State.setActive` -/

@[simp] theorem State.setActive_tables (a : Tables) : (s.setActive a).tables = { s.tables with active := a } := rfl
@[simp] theorem State.setActive_tracker (a : Tables) : (s.setActive a).tracker = s.tracker := rfl
@[simp] theorem State.setActive_matcher (a : Tables) : (s.setActive a).matcher = s.matcher := rfl
@[simp] theorem State.setActive_interlock (a : Tables) : (s.setActive a).interlock = s.interlock := rfl
@[simp] theorem State.setActive_seq (a : Tables) : (s.setActive a).seq = s.seq := rfl
@[simp] theorem State.setActive_scan (a : Tables) : (s.setActive a).scan = s.scan := rfl
@[simp] theorem State.setActive_log (a : Tables) : (s.setActive a).log = s.log := rfl
@[simp] theorem State.setActive_mgmt (a : Tables) : (s.setActive a).mgmt = s.mgmt := rfl
@[simp] theorem State.setActive_portA (a : Tables) : (s.setActive a).portA = s.portA := rfl
@[simp] theorem State.setActive_portB (a : Tables) : (s.setActive a).portB = s.portB := rfl
@[simp] theorem State.setActive_lines (a : Tables) : (s.setActive a).lines = s.lines := rfl
@[simp] theorem State.setActive_fresh (a : Tables) : (s.setActive a).fresh = s.fresh := rfl
@[simp] theorem State.setActive_pending (a : Tables) : (s.setActive a).pending = s.pending := rfl

/-! `State.setShadow` -/

@[simp] theorem State.setShadow_tables (a : Tables) : (s.setShadow a).tables = { s.tables with shadow := a } := rfl
@[simp] theorem State.setShadow_tracker (a : Tables) : (s.setShadow a).tracker = s.tracker := rfl
@[simp] theorem State.setShadow_matcher (a : Tables) : (s.setShadow a).matcher = s.matcher := rfl
@[simp] theorem State.setShadow_interlock (a : Tables) : (s.setShadow a).interlock = s.interlock := rfl
@[simp] theorem State.setShadow_seq (a : Tables) : (s.setShadow a).seq = s.seq := rfl
@[simp] theorem State.setShadow_scan (a : Tables) : (s.setShadow a).scan = s.scan := rfl
@[simp] theorem State.setShadow_log (a : Tables) : (s.setShadow a).log = s.log := rfl
@[simp] theorem State.setShadow_mgmt (a : Tables) : (s.setShadow a).mgmt = s.mgmt := rfl
@[simp] theorem State.setShadow_portA (a : Tables) : (s.setShadow a).portA = s.portA := rfl
@[simp] theorem State.setShadow_portB (a : Tables) : (s.setShadow a).portB = s.portB := rfl
@[simp] theorem State.setShadow_lines (a : Tables) : (s.setShadow a).lines = s.lines := rfl
@[simp] theorem State.setShadow_fresh (a : Tables) : (s.setShadow a).fresh = s.fresh := rfl
@[simp] theorem State.setShadow_pending (a : Tables) : (s.setShadow a).pending = s.pending := rfl

/-! `State.setWatch` -/

@[simp] theorem State.setWatch_tables (w : List WatchEntry) : (s.setWatch w).tables = { s.tables with watch := w } := rfl
@[simp] theorem State.setWatch_tracker (w : List WatchEntry) : (s.setWatch w).tracker = s.tracker := rfl
@[simp] theorem State.setWatch_matcher (w : List WatchEntry) : (s.setWatch w).matcher = s.matcher := rfl
@[simp] theorem State.setWatch_interlock (w : List WatchEntry) : (s.setWatch w).interlock = s.interlock := rfl
@[simp] theorem State.setWatch_seq (w : List WatchEntry) : (s.setWatch w).seq = s.seq := rfl
@[simp] theorem State.setWatch_scan (w : List WatchEntry) : (s.setWatch w).scan = s.scan := rfl
@[simp] theorem State.setWatch_log (w : List WatchEntry) : (s.setWatch w).log = s.log := rfl
@[simp] theorem State.setWatch_mgmt (w : List WatchEntry) : (s.setWatch w).mgmt = s.mgmt := rfl
@[simp] theorem State.setWatch_portA (w : List WatchEntry) : (s.setWatch w).portA = s.portA := rfl
@[simp] theorem State.setWatch_portB (w : List WatchEntry) : (s.setWatch w).portB = s.portB := rfl
@[simp] theorem State.setWatch_lines (w : List WatchEntry) : (s.setWatch w).lines = s.lines := rfl
@[simp] theorem State.setWatch_fresh (w : List WatchEntry) : (s.setWatch w).fresh = s.fresh := rfl
@[simp] theorem State.setWatch_pending (w : List WatchEntry) : (s.setWatch w).pending = s.pending := rfl

/-! `State.usedFree` -/

@[simp] theorem State.usedFree_tables : (s.usedFree).tables = s.tables := rfl
@[simp] theorem State.usedFree_tracker : (s.usedFree).tracker = s.tracker := rfl
@[simp] theorem State.usedFree_matcher : (s.usedFree).matcher = s.matcher := rfl
@[simp] theorem State.usedFree_interlock : (s.usedFree).interlock = s.interlock := rfl
@[simp] theorem State.usedFree_seq : (s.usedFree).seq = s.seq := rfl
@[simp] theorem State.usedFree_scan : (s.usedFree).scan = s.scan := rfl
@[simp] theorem State.usedFree_log : (s.usedFree).log = s.log := rfl
@[simp] theorem State.usedFree_mgmt : (s.usedFree).mgmt = s.mgmt := rfl
@[simp] theorem State.usedFree_portA : (s.usedFree).portA = s.portA := rfl
@[simp] theorem State.usedFree_portB : (s.usedFree).portB = s.portB := rfl
@[simp] theorem State.usedFree_lines : (s.usedFree).lines = s.lines := rfl
@[simp] theorem State.usedFree_fresh : (s.usedFree).fresh = s.fresh + 2 := rfl
@[simp] theorem State.usedFree_pending : (s.usedFree).pending = s.pending := rfl

/-! Reading a slot's thing after writing one -/

@[simp] theorem Four.get_set_same {α : Type} (f : Four α) (k : SlotId) (a : α) : (f.set k a).get k = a := by
  fin_cases k <;> rfl

theorem Four.get_set_ne {α : Type} (f : Four α) {j k : SlotId} (a : α) (h : j ≠ k) : (f.set k a).get j = f.get j := by
  fin_cases k <;> fin_cases j <;> first | rfl | exact absurd rfl h

theorem Four.get_set {α : Type} (f : Four α) (j k : SlotId) (a : α) :
    (f.set k a).get j = if j = k then a else f.get j := by
  split
  · subst_vars; exact f.get_set_same _ _
  · exact f.get_set_ne _ ‹_›

/-- Two records of four are equal when every slot reads the same. -/
theorem Four.ext_get {α : Type} {f g : Four α} (h : ∀ k, f.get k = g.get k) : f = g := by
  have h0 := h 0; have h1 := h 1; have h2 := h 2; have h3 := h 3
  cases f; cases g
  simp only [Four.get] at h0 h1 h2 h3
  subst_vars; rfl

@[simp] theorem Four.set_get_self {α : Type} (f : Four α) (k : SlotId) : f.set k (f.get k) = f := by
  fin_cases k <;> rfl

theorem mem_slotIds (k : SlotId) : k ∈ slotIds := by fin_cases k <;> decide

theorem slotIds_nodup : slotIds.Nodup := by decide

@[simp] theorem State.slot_setSlot_same (k : SlotId) (r : Slot) : (s.setSlot k r).slot k = r := Four.get_set_same _ _ _

theorem State.slot_setSlot (j k : SlotId) (r : Slot) : (s.setSlot k r).slot j = if j = k then r else s.slot j :=
  Four.get_set _ _ _ _

theorem State.slot_setSlot_ne {j k : SlotId} (r : Slot) (h : j ≠ k) : (s.setSlot k r).slot j = s.slot j :=
  Four.get_set_ne _ _ h

@[simp] theorem State.order_setOrder_same (k : SlotId) (o : Option SlotOrder) : (s.setOrder k o).order k = o :=
  Four.get_set_same _ _ _

theorem State.order_setOrder (j k : SlotId) (o : Option SlotOrder) :
    (s.setOrder k o).order j = if j = k then o else s.order j := Four.get_set _ _ _ _

theorem State.order_setOrder_ne {j k : SlotId} (o : Option SlotOrder) (h : j ≠ k) :
    (s.setOrder k o).order j = s.order j := Four.get_set_ne _ _ h

/-- A slot's record depends on the Sequence Unit alone. -/
theorem State.slot_congr {s t : State} (h : t.seq = s.seq) (k : SlotId) : t.slot k = s.slot k := by simp [State.slot, h]

/-- A slot's place depends on Port B alone. -/
theorem State.order_congr {s t : State} (h : t.portB.orders = s.portB.orders) (k : SlotId) : t.order k = s.order k := by
  simp [State.order, h]

/-! Reading a link after writing one -/

@[simp] theorem State.link_setLink_same (p : Port) (l : Link) : (s.setLink p l).link p = l := by cases p <;> rfl

theorem State.link_setLink (p q : Port) (l : Link) : (s.setLink p l).link q = if q = p then l else s.link q := by
  cases p <;> cases q <;> rfl

@[simp] theorem State.setLink_setLink (p : Port) (l m : Link) : (s.setLink p l).setLink p m = s.setLink p m := by
  cases p <;> rfl

@[simp] theorem State.setLink_link (p : Port) : s.setLink p (s.link p) = s := by cases p <;> rfl

@[simp] theorem State.setLink_tables (p : Port) (l : Link) : (s.setLink p l).tables = s.tables := by cases p <;> rfl
@[simp] theorem State.setLink_tracker (p : Port) (l : Link) : (s.setLink p l).tracker = s.tracker := by cases p <;> rfl
@[simp] theorem State.setLink_matcher (p : Port) (l : Link) : (s.setLink p l).matcher = s.matcher := by cases p <;> rfl
@[simp] theorem State.setLink_interlock (p : Port) (l : Link) : (s.setLink p l).interlock = s.interlock := by
  cases p <;> rfl
@[simp] theorem State.setLink_seq (p : Port) (l : Link) : (s.setLink p l).seq = s.seq := by cases p <;> rfl
@[simp] theorem State.setLink_scan (p : Port) (l : Link) : (s.setLink p l).scan = s.scan := by cases p <;> rfl
@[simp] theorem State.setLink_log (p : Port) (l : Link) : (s.setLink p l).log = s.log := by cases p <;> rfl
@[simp] theorem State.setLink_mgmt (p : Port) (l : Link) : (s.setLink p l).mgmt = s.mgmt := by cases p <;> rfl
@[simp] theorem State.setLink_lines (p : Port) (l : Link) : (s.setLink p l).lines = s.lines := by cases p <;> rfl
@[simp] theorem State.setLink_fresh (p : Port) (l : Link) : (s.setLink p l).fresh = s.fresh := by cases p <;> rfl
@[simp] theorem State.setLink_pending (p : Port) (l : Link) : (s.setLink p l).pending = s.pending := by cases p <;> rfl
@[simp] theorem State.setLink_down (p : Port) (l : Link) : (s.setLink p l).portA.down = s.portA.down := by cases p <;> rfl
@[simp] theorem State.setLink_answers (p : Port) (l : Link) : (s.setLink p l).portA.answers = s.portA.answers := by
  cases p <;> rfl
@[simp] theorem State.setLink_alert (p : Port) (l : Link) : (s.setLink p l).portA.alert = s.portA.alert := by
  cases p <;> rfl
@[simp] theorem State.setLink_up (p : Port) (l : Link) : (s.setLink p l).portB.up = s.portB.up := by cases p <;> rfl
@[simp] theorem State.setLink_orders (p : Port) (l : Link) : (s.setLink p l).portB.orders = s.portB.orders := by
  cases p <;> rfl
@[simp] theorem State.setLink_burst (p : Port) (l : Link) : (s.setLink p l).portB.burst = s.portB.burst := by
  cases p <;> rfl
@[simp] theorem State.setLink_turnForward (p : Port) (l : Link) : (s.setLink p l).portB.turnForward = s.portB.turnForward := by
  cases p <;> rfl

end Sys2Proof.Machine
end

