-- ==== Sys2Proof/Laws/Input.lean ====
section
/-! SUPPORT. Commands as live events, the input slot, and what serving a request comes to. -/

namespace Sys2Proof.Machine

variable {s : State}

/-! ### Live events -/

theorem live_eq (h : s.powered = true) (f : State → State) : live f s = .next (f s) := by
  simp only [State.powered, Bool.not_eq_true'] at h
  simp [live, h]

theorem live_closed (h : s.lines.bypassClosed = true) (f : State → State) : live f s = .next s := by simp [live, h]

theorem ifWf_true {b : Bool} (h : b = true) (o : Host.Outcome State Fault Refusal) : ifWf b o = o := by simp [ifWf, h]

theorem slotOfNat_val (k : SlotId) : slotOfNat k.val = some k := by simp [slotOfNat, k.isLt]

theorem slotWf_val (k : SlotId) : slotWf k.val = true := by simp [slotWf, k.isLt]

theorem slotOfNat_eq_some {n : Nat} {k : SlotId} : slotOfNat n = some k ↔ k.val = n := by
  unfold slotOfNat
  split
  · simp only [Option.some.injEq, Fin.ext_iff]; exact eq_comm
  · simp only [reduceCtorEq, false_iff]; have := k.isLt; omega

theorem slotOfNat_eq_none {n : Nat} : slotOfNat n = none ↔ 3 < n := by
  unfold slotOfNat
  split <;> simp <;> omega

/-! ### Bytes -/

@[simp] theorem byte_toNat (n : Nat) : (byte n).toNat = n % 256 := by simp [byte]

@[simp] theorem byte_of_toNat (b : Byte) : byte b.toNat = b := by simp [byte]

theorem toNat_byte_of_lt {n : Nat} (h : n < 256) : (byte n).toNat = n := by simp [Nat.mod_eq_of_lt h]

theorem byte_eq_iff {b : Byte} {n : Nat} (h : n < 256) : b = BitVec.ofNat 8 n ↔ b.toNat = n := by
  rw [← BitVec.toNat_inj]; simp [Nat.mod_eq_of_lt h]

theorem Byte.toNat_lt (b : Byte) : b.toNat < 256 := b.isLt

/-! ### The input slot -/

/-- Nothing is settled while the request in service, if unserved, has a known code. -/
theorem settleInput_settled (h : s.inputSettled = true) : settleInput s = s := by
  have key : answerUnknown s = s := by
    unfold answerUnknown
    split
    · next heq => simp only [State.inputSettled, heq] at h; simp [h]
    · rfl
  simp [settleInput, key]

/-- An answer made while the request that waits, if any, is known, leaves what `State.answered` says. -/
theorem answerAndLeave_eq (r : Request) (status : Nat) (data : List Byte)
    (hw : s.mgmt.waiting.elim true Request.known = true) :
    answerAndLeave r status data s = s.answered r (r.code.getD 0) status data := by
  unfold answerAndLeave
  rw [settleInput_settled]
  · rfl
  · unfold State.inputSettled leaveService answerRequest addAnswer
    cases h : s.mgmt.waiting with
    | none => simp [h]
    | some w => simpa [h] using hw

/-- What a request that is about to be served brings. -/
theorem State.serving_spec {r : Request} {code : Nat} {args : List Byte} (h : s.serving r code args = true) :
    s.powered = true ∧ s.mgmt.service = some ⟨r, .unserved⟩ ∧ r.payload = byte code :: args ∧ 0 < s.freePlaces ∧
      s.mgmt.waiting.elim true Request.known = true := by
  simp only [State.serving, Bool.and_eq_true, beq_iff_eq, decide_eq_true_eq] at h
  obtain ⟨⟨⟨⟨h1, h2⟩, h3⟩, h4⟩, h5⟩ := h
  exact ⟨h1, h2, h3, h4, h5⟩

theorem Request.code_of_payload {r : Request} {code : Nat} {args : List Byte} (h : r.payload = byte code :: args)
    (hc : code < 256) : r.code = some code := by simp [Request.code, h, Nat.mod_eq_of_lt hc]

theorem Request.args_of_payload {r : Request} {code : Nat} {args : List Byte} (h : r.payload = byte code :: args) :
    r.args = args := by simp [Request.args, h]

/-- Serving a request comes to the answer of its body, or of BAD REQUEST for a wrong length. -/
theorem request_serving {r : Request} {code : Nat} {args : List Byte} (h : s.serving r code args = true) (hc : code < 256)
    (len : List Byte → Bool) (body : List Byte → State → Served)
    (hb : len args = true → (body args s).state.mgmt.waiting = s.mgmt.waiting) :
    request code len body s =
      .next (if len args then (body args s).state.answered r code (body args s).status (body args s).data
             else s.answered r code stBadRequest []) := by
  obtain ⟨hp, hs, hpay, hf, hw⟩ := State.serving_spec h
  have hcode := Request.code_of_payload hpay hc
  have hargs := Request.args_of_payload hpay
  unfold request
  rw [live_eq hp]
  unfold serveRequest
  simp only [hs, hcode, hargs, hf, and_self, if_true]
  by_cases hl : len args = true
  · simp only [hl, if_true]
    rw [answerAndLeave_eq _ _ _ (by rw [hb hl]; exact hw), hcode]; rfl
  · simp only [hl, Bool.false_eq_true, if_false, refuse]
    rw [answerAndLeave_eq _ _ _ hw, hcode]; rfl

/-- A row whose request is not the one in service does nothing. -/
theorem request_other {r : Request} {code : Nat} (hp : s.powered = true) (hs : s.mgmt.service = some ⟨r, .unserved⟩)
    (h : r.code ≠ some code ∨ s.freePlaces = 0) (len : List Byte → Bool) (body : List Byte → State → Served) :
    request code len body s = .next s := by
  unfold request
  rw [live_eq hp]
  unfold serveRequest
  simp only [hs]
  rw [if_neg]
  rintro ⟨h1, h2⟩
  rcases h with h | h
  · exact h h1
  · omega

end Sys2Proof.Machine
end

