-- ==== Sys2Proof/Laws/Flags.lean ====
section
/-! SUPPORT. What the raising of a condition, the offering of a record, the freeze and the alarm can do: they touch the
condition word, the pending alert and the log alone. -/

namespace Sys2Proof.Machine

/-- Two states differ at most in the condition word, the pending alert and the log, whose places and circles follow the log
mode. Every shared operation that only reports stands in this relation. -/
structure Reported (s t : State) : Prop where
  tables : t.tables = s.tables
  tracker : t.tracker = s.tracker
  matcher : t.matcher = s.matcher
  interlock : t.interlock = s.interlock
  seq : t.seq = s.seq
  scan : t.scan = s.scan
  config : t.mgmt.config = s.mgmt.config
  mode : t.mgmt.mode = s.mgmt.mode
  service : t.mgmt.service = s.mgmt.service
  waiting : t.mgmt.waiting = s.mgmt.waiting
  linkA : t.portA.link = s.portA.link
  down : t.portA.down = s.portA.down
  answers : t.portA.answers = s.portA.answers
  portB : t.portB = s.portB
  lines : t.lines = s.lines
  fresh : t.fresh = s.fresh
  pending : t.pending = s.pending

theorem Reported.refl (s : State) : Reported s s := by constructor <;> rfl

theorem Reported.trans {s t u : State} (h : Reported s t) (g : Reported t u) : Reported s u := by
  cases h; cases g; constructor <;> simp_all

variable (s : State)

/-! ### `raise` -/

theorem raise_reported (c : Nat) : Reported s (raise c s) := by constructor <;> rfl

@[simp] theorem raise_tables (c : Nat) : (raise c s).tables = s.tables := rfl
@[simp] theorem raise_tracker (c : Nat) : (raise c s).tracker = s.tracker := rfl
@[simp] theorem raise_matcher (c : Nat) : (raise c s).matcher = s.matcher := rfl
@[simp] theorem raise_interlock (c : Nat) : (raise c s).interlock = s.interlock := rfl
@[simp] theorem raise_seq (c : Nat) : (raise c s).seq = s.seq := rfl
@[simp] theorem raise_scan (c : Nat) : (raise c s).scan = s.scan := rfl
@[simp] theorem raise_log (c : Nat) : (raise c s).log = s.log := rfl
@[simp] theorem raise_mgmt (c : Nat) :
    (raise c s).mgmt = { s.mgmt with conditions := s.mgmt.conditions ||| condBit c } := rfl
@[simp] theorem raise_linkA (c : Nat) : (raise c s).portA.link = s.portA.link := rfl
@[simp] theorem raise_down (c : Nat) : (raise c s).portA.down = s.portA.down := rfl
@[simp] theorem raise_answers (c : Nat) : (raise c s).portA.answers = s.portA.answers := rfl
@[simp] theorem raise_portB (c : Nat) : (raise c s).portB = s.portB := rfl
@[simp] theorem raise_lines (c : Nat) : (raise c s).lines = s.lines := rfl
@[simp] theorem raise_fresh (c : Nat) : (raise c s).fresh = s.fresh := rfl
@[simp] theorem raise_pending (c : Nat) : (raise c s).pending = s.pending := rfl

/-! ### `offer` -/

variable (kind : LogKind) (run point slot detail : Nat)

/-- Offering a record changes the log alone, by `EventLog.offer` of the record stamped now. -/
theorem offer_eq :
    offer kind run point slot detail s = { s with log := s.logWith (s.record kind run point slot detail) } := rfl

theorem offer_reported : Reported s (offer kind run point slot detail s) := by constructor <;> rfl

@[simp] theorem offer_tables : (offer kind run point slot detail s).tables = s.tables := rfl
@[simp] theorem offer_tracker : (offer kind run point slot detail s).tracker = s.tracker := rfl
@[simp] theorem offer_matcher : (offer kind run point slot detail s).matcher = s.matcher := rfl
@[simp] theorem offer_interlock : (offer kind run point slot detail s).interlock = s.interlock := rfl
@[simp] theorem offer_seq : (offer kind run point slot detail s).seq = s.seq := rfl
@[simp] theorem offer_scan : (offer kind run point slot detail s).scan = s.scan := rfl
@[simp] theorem offer_log :
    (offer kind run point slot detail s).log = s.logWith (s.record kind run point slot detail) := rfl
@[simp] theorem offer_mgmt : (offer kind run point slot detail s).mgmt = s.mgmt := rfl
@[simp] theorem offer_portA : (offer kind run point slot detail s).portA = s.portA := rfl
@[simp] theorem offer_portB : (offer kind run point slot detail s).portB = s.portB := rfl
@[simp] theorem offer_lines : (offer kind run point slot detail s).lines = s.lines := rfl
@[simp] theorem offer_fresh : (offer kind run point slot detail s).fresh = s.fresh := rfl
@[simp] theorem offer_pending : (offer kind run point slot detail s).pending = s.pending := rfl

/-! ### The log -/

/-- What offering a record can do to the log: nothing, or one record kept in one circle. -/
theorem EventLog.offer_cases (mode : LogMode) (r : LogRecord) (g : EventLog) :
    g.offer mode r = g ∨
    (mode = .mixed ∧ r.kind.isTrack = true ∧ g.frozen = false ∧
      g.offer mode r = { g with places := g.places.set g.lower.write (some r), lower := g.lower.next 128 }) ∨
    (mode = .mixed ∧ r.kind.isTrack = false ∧ g.frozen = false ∧
      g.offer mode r = { g with places := g.places.set (128 + g.upper.write) (some r), upper := g.upper.next 128 }) ∨
    (((mode = .track ∧ r.kind.isTrack = true) ∨ (mode = .traffic ∧ r.kind.isTrack = false)) ∧ g.frozen = false ∧
      g.offer mode r = { g with places := g.places.set g.whole.write (some r), whole := g.whole.next 256 }) := by
  unfold EventLog.offer
  cases hf : g.frozen <;> cases mode <;> cases ht : r.kind.isTrack <;> simp

theorem EventLog.offer_frozen (mode : LogMode) (r : LogRecord) (g : EventLog) : (g.offer mode r).frozen = g.frozen := by
  rcases g.offer_cases mode r with h | ⟨_, _, _, h⟩ | ⟨_, _, _, h⟩ | ⟨_, _, h⟩ <;> rw [h]

/-- A circle stays sound when a record is kept in it. -/
theorem Circle.Sound.next {c : Circle} {cap : Nat} (h : c.Sound cap) : (c.next cap).Sound cap := by
  obtain ⟨h1, h2, h3⟩ := h
  unfold Circle.next Circle.Sound
  refine ⟨?_, ?_, ?_⟩ <;> simp only <;> (repeat' split) <;> omega

/-! ### The freeze -/

/-- The freeze freezes the log and raises LOG FROZEN, or does nothing. -/
theorem freezeLog_cases :
    freezeLog s = s ∨
      (s.log.frozen = false ∧ s.mgmt.config.logMode ≠ .off ∧
        freezeLog s = raise condLogFrozen { s with log := { s.log with frozen := true } }) := by
  unfold freezeLog
  by_cases h : s.log.frozen = true
  · simp [h]
  · by_cases g : s.mgmt.config.logMode = .off <;> simp_all

theorem freezeLog_reported : Reported s (freezeLog s) := by
  rcases freezeLog_cases s with h | ⟨_, _, h⟩ <;> rw [h] <;> constructor <;> rfl

/-! ### The alarm -/

theorem alarmOf_reported (r : Run) (raised : AnomalySet) : Reported s (alarmOf r raised s) := by
  unfold alarmOf
  dsimp only
  split
  · exact .refl s
  · generalize (if raised &&& anZone = 0#11 then 255 else r.zoneValve.getD 255) = point
    have key := (raise_reported s condRunAlarm).trans (offer_reported _ .anomalyAlarm r.id point (slotNumber r.bound)
      (raised &&& s.mgmt.config.alarmMask).toNat)
    split
    · exact key.trans (freezeLog_reported _)
    · exact key

end Sys2Proof.Machine
end

