-- ==== Sys2Proof/Laws/Ops.lean ====
section
/-! SUPPORT. Reading a record after changing one, and what entering, binding, unbinding and removing a run can do. -/

namespace Sys2Proof.Machine

variable (s : State)

/-! ### Records by key -/

/-- Finding a record by its key after changing the records of one key. -/
theorem find?_update {α : Type} (key : α → Nat) (f : α → α) (hf : ∀ a, key (f a) = key a) (p q : Nat) (xs : List α) :
    (xs.map (fun a => if key a = p then f a else a)).find? (fun a => key a == q) =
      if q = p then (xs.find? (fun a => key a == q)).map f else xs.find? (fun a => key a == q) := by
  induction xs with
  | nil => simp
  | cons a xs ih =>
    by_cases ha : key a = p
    · by_cases hq : q = p
      · subst hq; simp [ha, hf]
      · have : ¬ key (f a) = q := by rw [hf, ha]; exact fun h => hq h.symm
        simp only [List.map_cons, ha, if_true, List.find?_cons]
        simp only [beq_eq_false_iff_ne.mpr this, hq, if_false] at ih ⊢
        rw [ih]
        rw [show (p == q) = false from beq_eq_false_iff_ne.mpr (fun h => hq h.symm)]
    · by_cases hk : key a = q
      · have : ¬ q = p := fun h => ha (hk.trans h)
        simp [hk, this]
      · simp only [List.map_cons, ha, if_false, List.find?_cons, beq_eq_false_iff_ne.mpr hk]
        exact ih

theorem find?_key {α : Type} {key : α → Nat} {p : Nat} {xs : List α} {a : α}
    (h : xs.find? (fun a => key a == p) = some a) : key a = p ∧ a ∈ xs :=
  ⟨by simpa using List.find?_some h, List.mem_of_find?_eq_some h⟩

theorem State.valve_updValve (p q : Nat) (f : ValveRec → ValveRec) (hf : ∀ v, (f v).point = v.point) :
    (s.updValve p f).valve q = if q = p then (s.valve q).map f else s.valve q :=
  find?_update ValveRec.point f hf p q _

theorem State.detector_updDetector (p q : Nat) (f : DetectorRec → DetectorRec) (hf : ∀ d, (f d).point = d.point) :
    (s.updDetector p f).detector q = if q = p then (s.detector q).map f else s.detector q :=
  find?_update DetectorRec.point f hf p q _

theorem State.flow_updFlow (p q : Nat) (f : FlowRec → FlowRec) (hf : ∀ d, (f d).point = d.point) :
    (s.updFlow p f).flow q = if q = p then (s.flow q).map f else s.flow q :=
  find?_update FlowRec.point f hf p q _

theorem State.node_updNode (p q : Nat) (f : NodeRec → NodeRec) (hf : ∀ d, (f d).node = d.node) :
    (s.updNode p f).node q = if q = p then (s.node q).map f else s.node q :=
  find?_update NodeRec.node f hf p q _

theorem State.run_updRun (p q : Nat) (f : Run → Run) (hf : ∀ r, (f r).id = r.id) :
    (s.updRun p f).run q = if q = p then (s.run q).map f else s.run q :=
  find?_update Run.id f hf p q _

theorem State.run_mem {id : Nat} {r : Run} (h : s.run id = some r) : r ∈ s.tracker.runs ∧ r.id = id :=
  ⟨(find?_key h).2, (find?_key h).1⟩

theorem State.valve_mem {p : Nat} {v : ValveRec} (h : s.valve p = some v) : v ∈ s.interlock.valves ∧ v.point = p :=
  ⟨(find?_key h).2, (find?_key h).1⟩

/-- Changing records of one key keeps the list of keys. -/
theorem map_key_update {α : Type} (key : α → Nat) (f : α → α) (hf : ∀ a, key (f a) = key a) (p : Nat) (xs : List α) :
    (xs.map (fun a => if key a = p then f a else a)).map key = xs.map key := by
  rw [List.map_map]
  apply List.map_congr_left
  intro a _
  simp only [Function.comp_apply]
  split
  · exact hf a
  · rfl

/-! ### Folds -/

/-- A property that every step of a fold keeps holds at its end. -/
theorem foldl_keeps {α β : Type} (P : β → Prop) (f : β → α → β) (h : ∀ b a, P b → P (f b a)) (xs : List α) :
    ∀ b, P b → P (xs.foldl f b) := by
  induction xs with
  | nil => exact fun b hb => hb
  | cons x xs ih => exact fun b hb => ih _ (h b x hb)

/-! ### Runs -/

/-- A run is placed among the others, none lost and none moved. -/
theorem placeRun_perm (r : Run) (rs : List Run) : (placeRun r rs).Perm (r :: rs) := by
  induction rs with
  | nil => exact .refl _
  | cons x xs ih =>
    unfold placeRun
    split
    · exact (ih.cons x).trans (List.Perm.swap _ _ _)
    · exact .refl _

/-- Placing a run keeps the order of positions. -/
theorem placeRun_sorted (r : Run) {rs : List Run} (h : rs.Pairwise (fun a b => b.position ≤ a.position)) :
    (placeRun r rs).Pairwise (fun a b => b.position ≤ a.position) := by
  induction rs with
  | nil => simp [placeRun]
  | cons x xs ih =>
    unfold placeRun
    rw [List.pairwise_cons] at h
    split
    · next hx =>
      rw [List.pairwise_cons]
      refine ⟨fun y hy => ?_, ih h.2⟩
      rcases List.mem_cons.mp ((placeRun_perm r xs).mem_iff.mp hy) with rfl | hy
      · exact hx
      · exact h.1 y hy
    · next hx =>
      rw [List.pairwise_cons]
      refine ⟨fun y hy => ?_, List.pairwise_cons.mpr h⟩
      rcases List.mem_cons.mp hy with rfl | hy
      · omega
      · have := h.1 y hy; omega

/-- The id that the next run takes: the first after the last assigned one that no run holds, when some candidate is free. -/
theorem freeIdFrom_spec (fuel last : Nat) (held : List Nat) (hl : last ≤ 255)
    (h : ∃ d, d < fuel ∧ (last + d) % 255 + 1 ∉ held) :
    ∃ d, d < fuel ∧ freeIdFrom fuel last held = (last + d) % 255 + 1 ∧ (last + d) % 255 + 1 ∉ held ∧
      ∀ e, e < d → (last + e) % 255 + 1 ∈ held := by
  induction fuel generalizing last with
  | zero => obtain ⟨d, hd, _⟩ := h; omega
  | succ n ih =>
    have hc : (if 255 ≤ last then 1 else last + 1) = last % 255 + 1 := by split <;> omega
    unfold freeIdFrom
    simp only [hc]
    by_cases hm : last % 255 + 1 ∈ held
    · rw [if_pos (by simpa using hm)]
      obtain ⟨d, hd, hfree⟩ := h
      have hd0 : d ≠ 0 := by rintro rfl; exact hfree hm
      obtain ⟨d', hd', he, hf, hall⟩ := ih (last % 255 + 1) (by omega)
        ⟨d - 1, by omega, by rwa [show (last % 255 + 1 + (d - 1)) % 255 = (last + d) % 255 by omega]⟩
      have shift : ∀ e, (last % 255 + 1 + e) % 255 = (last + (e + 1)) % 255 := by omega
      refine ⟨d' + 1, by omega, by rw [he, shift], by rw [← shift]; exact hf, ?_⟩
      intro e hlt
      rcases Nat.eq_zero_or_pos e with rfl | hpos
      · exact hm
      · have := hall (e - 1) (by omega)
        rwa [shift, show e - 1 + 1 = e by omega] at this
    · rw [if_neg (by simpa using hm)]
      exact ⟨0, by omega, rfl, hm, fun e h => absurd h (by omega)⟩

/-- With fewer than 255 ids held some candidate is free. -/
theorem exists_free_id (last n : Nat) (held : List Nat) (hn : held.length < n) (hn' : n ≤ 255) :
    ∃ d, d < n ∧ (last + d) % 255 + 1 ∉ held := by
  by_contra hall
  push Not at hall
  have hsub : ((List.range n).map (fun d => (last + d) % 255 + 1)).Subperm held := by
    apply List.Nodup.subperm
    · apply List.Nodup.map_on _ List.nodup_range
      intro a ha b hb h
      rw [List.mem_range] at ha hb
      omega
    · intro x hx
      rw [List.mem_map] at hx
      obtain ⟨d, hd, rfl⟩ := hx
      exact hall d (List.mem_range.mp hd)
  have := hsub.length_le
  simp at this
  omega

/-! ### Bindings -/

/-- What unbinding a slot can do: the slot loses its run, and the runs with that id lose their slot. -/
theorem unbindSlot_eq (k : SlotId) :
    unbindSlot k s =
      { s with
        seq := { slots := s.seq.slots.set k { s.slot k with bound := none } }
        tracker := { s.tracker with runs := s.tracker.runs.map (fun x =>
          if (s.slot k).bound = some x.id then { x with bound := none } else x) } } := by
  unfold unbindSlot
  cases h : (s.slot k).bound with
  | none =>
    have h1 : s.seq.slots.set k { s.slot k with bound := none } = s.seq.slots := by
      have : ({ s.slot k with bound := none } : Slot) = s.slot k := by rw [← h]
      rw [this]; exact Four.set_get_self _ _
    simp [h1]
  | some id =>
    simp only [Option.some.injEq, eq_comm (a := id)]
    rfl

/-- Removing a run changes the run table, one counter, the bindings of slots to it, and the log. -/
theorem removeRun_eq (w : WayOut) (r : Run) (point detail : Nat) :
    removeRun w r point detail s =
      { s with
        tracker := { s.tracker with
          runs := s.tracker.runs.filter (fun x => x.id != r.id)
          received := if w = .received then s.tracker.received + 1#32 else s.tracker.received
          exited := if w = .exited then s.tracker.exited + 1#32 else s.tracker.exited
          abandoned := if w = .abandoned then s.tracker.abandoned + 1#32 else s.tracker.abandoned }
        seq := (clearBindingTo r.id s).seq
        log := s.logWith (s.record w.kind r.id point (slotNumber r.bound) detail) } := by
  have hc : ∀ t : State, clearBindingTo r.id t = { t with seq := (clearBindingTo r.id t).seq } := by
    intro t
    simp only [clearBindingTo]
    refine foldl_keeps (fun u : State => u = { t with seq := u.seq }) _ ?_ _ t rfl
    intro b k hb
    split
    · conv_lhs => rw [hb]
      rfl
    · exact hb
  have hseq : ∀ t u : State, t.seq = u.seq → (clearBindingTo r.id t).seq = (clearBindingTo r.id u).seq := by
    intro t u h
    simp only [clearBindingTo]
    suffices ∀ ks : List SlotId, ∀ t u : State, t.seq = u.seq →
        (ks.foldl (fun s k => if (s.slot k).bound = some r.id then s.setSlot k { s.slot k with bound := none } else s) t).seq =
        (ks.foldl (fun s k => if (s.slot k).bound = some r.id then s.setSlot k { s.slot k with bound := none } else s) u).seq
      from this _ _ _ h
    intro ks
    induction ks with
    | nil => exact fun _ _ h => h
    | cons k ks ih =>
      intro t u h
      apply ih
      simp only [State.slot_congr h]
      split
      · simp [h]
      · exact h
  unfold removeRun
  simp only []
  rw [hc, hseq _ s (by rfl)]
  cases w <;> rfl

/-- A slot after the binding to a run was cleared everywhere. -/
theorem clearBindingTo_slot (id : Nat) (k : SlotId) :
    (clearBindingTo id s).slot k =
      { s.slot k with bound := if (s.slot k).bound = some id then none else (s.slot k).bound } := by
  have step : ∀ (t : State) (j k : SlotId),
      (if (t.slot j).bound = some id then t.setSlot j { t.slot j with bound := none } else t).slot k =
        if k = j then { t.slot k with bound := if (t.slot k).bound = some id then none else (t.slot k).bound }
        else t.slot k := by
    intro t j k
    by_cases hk : k = j
    · subst hk
      split <;> simp_all
    · split <;> simp [hk, State.slot_setSlot_ne]
  unfold clearBindingTo slotIds
  simp only [List.foldl_cons, List.foldl_nil]
  rw [step, step, step, step]
  fin_cases k <;> simp

end Sys2Proof.Machine
end

