-- ==== Sys2Proof/Laws/Sequence.lean ====
section
/-! SUPPORT. What the Sequence Unit's operations can do, said once for all of them. -/

namespace Sys2Proof.Machine

/-- What an event of some slots can change: the run table with its last id and the inserted and received counters, the records of
those slots and the bindings of the others, the places of those slots, reservations, the condition word, the pending alert and the
log. -/
structure Sequenced (ks : SlotId → Prop) (s t : State) : Prop where
  tables : t.tables = s.tables
  clock : t.tracker.clock = s.tracker.clock
  flows : t.tracker.flows = s.tracker.flows
  exited : t.tracker.exited = s.tracker.exited
  abandoned : t.tracker.abandoned = s.tracker.abandoned
  matcher : t.matcher = s.matcher
  valves : t.interlock.valves.map (fun v => { v with reserving := none }) =
    s.interlock.valves.map (fun v => { v with reserving := none })
  slots : ∀ j, ¬ ks j → t.slot j = { s.slot j with bound := (t.slot j).bound }
  scan : t.scan = s.scan
  config : t.mgmt.config = s.mgmt.config
  mode : t.mgmt.mode = s.mgmt.mode
  service : t.mgmt.service = s.mgmt.service
  waiting : t.mgmt.waiting = s.mgmt.waiting
  linkA : t.portA.link = s.portA.link
  down : t.portA.down = s.portA.down
  answers : t.portA.answers = s.portA.answers
  linkB : t.portB.link = s.portB.link
  up : t.portB.up = s.portB.up
  orders : ∀ j, ¬ ks j → t.order j = s.order j
  burst : t.portB.burst = s.portB.burst
  turn : t.portB.turnForward = s.portB.turnForward
  lines : t.lines = s.lines
  fresh : t.fresh = s.fresh
  pending : t.pending = s.pending

theorem Sequenced.refl (ks : SlotId → Prop) (s : State) : Sequenced ks s s := by constructor <;> intros <;> rfl

theorem Sequenced.trans {ks : SlotId → Prop} {s t u : State} (h : Sequenced ks s t) (g : Sequenced ks t u) :
    Sequenced ks s u where
  tables := g.tables.trans h.tables
  clock := g.clock.trans h.clock
  flows := g.flows.trans h.flows
  exited := g.exited.trans h.exited
  abandoned := g.abandoned.trans h.abandoned
  matcher := g.matcher.trans h.matcher
  valves := g.valves.trans h.valves
  slots := fun j hj => by rw [g.slots j hj, h.slots j hj]
  scan := g.scan.trans h.scan
  config := g.config.trans h.config
  mode := g.mode.trans h.mode
  service := g.service.trans h.service
  waiting := g.waiting.trans h.waiting
  linkA := g.linkA.trans h.linkA
  down := g.down.trans h.down
  answers := g.answers.trans h.answers
  linkB := g.linkB.trans h.linkB
  up := g.up.trans h.up
  orders := fun j hj => (g.orders j hj).trans (h.orders j hj)
  burst := g.burst.trans h.burst
  turn := g.turn.trans h.turn
  lines := g.lines.trans h.lines
  fresh := g.fresh.trans h.fresh
  pending := g.pending.trans h.pending

theorem Sequenced.mono {ks ls : SlotId → Prop} {s t : State} (h : Sequenced ks s t) (hk : ∀ j, ks j → ls j) :
    Sequenced ls s t :=
  { h with slots := fun j hj => h.slots j (fun x => hj (hk j x)), orders := fun j hj => h.orders j (fun x => hj (hk j x)) }

theorem Reported.sequenced (ks : SlotId → Prop) {s t : State} (h : Reported s t) : Sequenced ks s t where
  tables := h.tables
  clock := by rw [h.tracker]
  flows := by rw [h.tracker]
  exited := by rw [h.tracker]
  abandoned := by rw [h.tracker]
  matcher := h.matcher
  valves := by rw [h.interlock]
  slots := fun j _ => by rw [State.slot_congr h.seq]
  scan := h.scan
  config := h.config
  mode := h.mode
  service := h.service
  waiting := h.waiting
  linkA := h.linkA
  down := h.down
  answers := h.answers
  linkB := by rw [h.portB]
  up := by rw [h.portB]
  orders := fun j _ => State.order_congr (by rw [h.portB]) j
  burst := by rw [h.portB]
  turn := by rw [h.portB]
  lines := h.lines
  fresh := h.fresh
  pending := h.pending

variable (s : State) (k : SlotId)

theorem setSlot_sequenced (r : Slot) : Sequenced (· = k) s (s.setSlot k r) := by
  constructor
  case slots => intro j hj; rw [State.slot_setSlot_ne _ _ hj]
  all_goals first | rfl | (intros; rfl)

theorem updSlot_sequenced (f : Slot → Slot) : Sequenced (· = k) s (s.updSlot k f) := setSlot_sequenced s k _

theorem setOrder_sequenced (o : Option SlotOrder) : Sequenced (· = k) s (s.setOrder k o) := by
  constructor
  case orders => intro j hj; rw [State.order_setOrder_ne _ _ hj]
  all_goals first | rfl | (intros; rfl)

theorem setRuns_sequenced (ks : SlotId → Prop) (rs : List Run) : Sequenced ks s (s.setRuns rs) := by
  constructor <;> intros <;> rfl

theorem unbindSlot_sequenced : Sequenced (· = k) s (unbindSlot k s) := by
  unfold unbindSlot
  split
  · exact .refl _ _
  · exact (setSlot_sequenced s k _).trans (setRuns_sequenced _ _ _)

theorem bindSlot_sequenced (id : Nat) : Sequenced (· = k) s (bindSlot k id s) :=
  (setSlot_sequenced s k _).trans (setRuns_sequenced _ _ _)

theorem releaseValves_sequenced (ks : SlotId → Prop) : Sequenced ks s (releaseValves k s) := by
  constructor
  case valves =>
    simp only [releaseValves, State.setValves_interlock, List.map_map]
    apply List.map_congr_left
    intro v _
    simp only [Function.comp_apply]
    split <;> rfl
  all_goals (intros; rfl)

theorem issueOrder_sequenced : Sequenced (· = k) s (issueOrder k s) := by
  unfold issueOrder
  split
  · exact (setOrder_sequenced s k _).trans (updSlot_sequenced _ k _)
  · exact updSlot_sequenced _ k _

theorem withdrawOrder_sequenced : Sequenced (· = k) s (withdrawOrder k s) := by
  unfold withdrawOrder
  split
  · split
    · exact .refl _ _
    · exact setOrder_sequenced s k _
  · exact .refl _ _

theorem enterIdle_sequenced : Sequenced (· = k) s (enterIdle k s) :=
  (updSlot_sequenced s k _).trans (releaseValves_sequenced _ k _)

theorem enterArmed_sequenced : Sequenced (· = k) s (enterArmed k s) := updSlot_sequenced s k _

theorem reloadCount_sequenced : Sequenced (· = k) s (reloadCount k s) := updSlot_sequenced s k _

theorem enterSpacing_sequenced : Sequenced (· = k) s (enterSpacing k s).state := by
  unfold enterSpacing
  split
  · dsimp only; exact updSlot_sequenced s k _
  · dsimp only; exact updSlot_sequenced s k _

theorem dropTrain_sequenced : Sequenced (· = k) s (dropTrain k s) :=
  (((reloadCount_sequenced s k).trans (unbindSlot_sequenced _ k)).trans (updSlot_sequenced _ k _)).trans
    (enterIdle_sequenced _ k)

theorem endByCount_sequenced : Sequenced (· = k) s (endByCount k s).state := by
  unfold endByCount
  split
  · exact (updSlot_sequenced s k _).trans (enterSpacing_sequenced _ k)
  · split
    · exact (reloadCount_sequenced s k).trans (enterArmed_sequenced _ k)
    · exact (reloadCount_sequenced s k).trans (enterIdle_sequenced _ k)

theorem afterTermination_sequenced (cause : Cause) : Sequenced (· = k) s (afterTermination k cause s).state := by
  cases cause <;> unfold afterTermination <;> dsimp only
  · exact endByCount_sequenced s k
  · exact (reloadCount_sequenced s k).trans (enterArmed_sequenced _ k)
  · exact enterArmed_sequenced s k
  · exact updSlot_sequenced s k _
  · exact updSlot_sequenced s k _
  · exact dropTrain_sequenced s k
  · exact dropTrain_sequenced s k
  · exact dropTrain_sequenced s k

theorem causeCondition_reported (cause : Cause) : Reported s (causeCondition cause s) := by
  cases cause <;> first | exact raise_reported s _ | exact .refl s

/-- A termination is an event of its slot. -/
theorem terminate_sequenced (cause : Cause) (bound : Nat) : Sequenced (· = k) s (terminate k cause bound s).state :=
  (((((offer_reported s _ _ _ _ _).sequenced _).trans (withdrawOrder_sequenced _ k)).trans
    ((causeCondition_reported _ cause).sequenced _)).trans (updSlot_sequenced _ k _)).trans
    (afterTermination_sequenced _ k cause)

theorem terminateNow_sequenced (cause : Cause) : Sequenced (· = k) s (terminateNow k cause s) :=
  terminate_sequenced s k cause _

theorem endStep_sequenced : Sequenced (· = k) s (endStep k s).state := by
  unfold endStep
  refine (unbindSlot_sequenced s k).trans ?_
  generalize unbindSlot k s = u
  dsimp only
  split
  · exact terminate_sequenced u k _ _
  split
  · exact terminate_sequenced u k _ _
  split
  · exact enterSpacing_sequenced u k
  · dsimp only; exact updSlot_sequenced u k _
  · exact enterSpacing_sequenced u k
  · exact terminate_sequenced u k _ _

theorem enterRun_sequenced (ks : SlotId → Prop) (r : Run) : Sequenced ks s (enterRun r s) := by
  constructor <;> intros <;> rfl

theorem insertRunStep_sequenced (next : Nat) : Sequenced (· = k) s (insertRunStep k next s).state := by
  unfold insertRunStep
  refine (unbindSlot_sequenced s k).trans ?_
  generalize unbindSlot k s = u
  dsimp only
  split
  · dsimp only
    exact ((enterRun_sequenced u _ _).trans ((offer_reported _ _ _ _ _ _).sequenced _)).trans (updSlot_sequenced _ k _)
  · exact terminate_sequenced u k _ _

theorem removeRun_received_sequenced (ks : SlotId → Prop) (r : Run) (point detail : Nat) :
    Sequenced ks s (removeRun .received r point detail s) := by
  rw [removeRun_eq]
  constructor
  case slots =>
    intro j _
    show (clearBindingTo r.id s).slot j = _
    rw [clearBindingTo_slot]
    show _ = ({ s.slot j with bound := ((clearBindingTo r.id s).slot j).bound } : Slot)
    rw [clearBindingTo_slot]
  all_goals first | rfl | (intros; rfl)

theorem removeRunStep_sequenced (next : Nat) : Sequenced (· = k) s (removeRunStep k next s).state := by
  unfold removeRunStep
  split
  · dsimp only
    exact (removeRun_received_sequenced s _ _ _ _).trans (updSlot_sequenced _ k _)
  · exact terminate_sequenced s k _ _

theorem approachTest_sequenced {p d : Nat} {t : State} (h : approachTest k p d s = some t) : Sequenced (· = k) s t := by
  unfold approachTest at h
  dsimp only at h
  split at h
  · split at h
    · cases h; exact .refl _ _
    · cases h
  · split at h
    · split at h
      · cases h; exact bindSlot_sequenced s k _
      · cases h
    · cases h

theorem startAction_sequenced (i : Nat) (r : StepRec) : Sequenced (· = k) s (startAction k i r s).state := by
  unfold startAction
  split
  · exact issueOrder_sequenced s k
  · exact issueOrder_sequenced s k
  · exact .refl _ _
  · exact .refl _ _
  · exact .refl _ _
  · exact insertRunStep_sequenced s k _
  · exact .refl _ _
  · split
    · next h => exact approachTest_sequenced s k h
    · exact .refl _ _
  · exact removeRunStep_sequenced s k _
  · exact endStep_sequenced s k

theorem beginStep_sequenced (i : Nat) (keep : Bool) : Sequenced (· = k) s (beginStep k i keep s).state := by
  unfold beginStep
  split
  · exact .refl _ _
  · exact (updSlot_sequenced s k _).trans (startAction_sequenced _ k _ _)

/-- The start of a step, with every step that follows it at once, is an event of its slot. -/
theorem runSteps_sequenced (fuel i : Nat) (keep : Bool) : Sequenced (· = k) s (runSteps fuel k i keep s) := by
  induction fuel generalizing i keep s with
  | zero => exact .refl _ _
  | succ n ih =>
    have hb := beginStep_sequenced s k i keep
    unfold runSteps
    split
    · next h => rw [h] at hb; exact hb.trans (ih _ _ _)
    · next h => rw [h] at hb; exact hb

theorem startStep_sequenced (i : Nat) : Sequenced (· = k) s (startStep k i s) := runSteps_sequenced s k _ _ _

theorem completeStep_sequenced : Sequenced (· = k) s (completeStep k s) := by
  unfold completeStep
  cases (s.slot k).step with
  | none => exact .refl _ _
  | some i => exact startStep_sequenced s k _

theorem timeoutStep_sequenced : Sequenced (· = k) s (timeoutStep k s) := by
  unfold timeoutStep
  split
  · exact .refl _ _
  · split
    · exact (withdrawOrder_sequenced s k).trans (completeStep_sequenced _ k)
    · exact terminateNow_sequenced s k _

theorem stepCountdownEnds_sequenced : Sequenced (· = k) s (stepCountdownEnds k s) := by
  unfold stepCountdownEnds
  split
  · exact completeStep_sequenced s k
  · exact timeoutStep_sequenced s k

theorem spacingEnds_sequenced : Sequenced (· = k) s (spacingEnds k s) := by
  unfold spacingEnds
  split
  · exact terminateNow_sequenced s k _
  · exact (updSlot_sequenced s k _).trans (startStep_sequenced _ k _)

theorem countSlotDown_sequenced (f : State → State) (hf : ∀ t, Sequenced (· = k) t (f t)) :
    Sequenced (· = k) s (countSlotDown k f s) := by
  unfold countSlotDown
  dsimp only
  split
  · exact .refl _ _
  · split
    · exact (updSlot_sequenced s k _).trans (hf _)
    · exact updSlot_sequenced s k _

theorem approachAtTick_sequenced {t : State} (h : approachAtTick k s = some t) : Sequenced (· = k) s t := by
  unfold approachAtTick at h
  split at h
  · split at h
    · exact approachTest_sequenced s k h
    · cases h
  · cases h

theorem tickSlot_sequenced : Sequenced (· = k) s (tickSlot s k) := by
  unfold tickSlot
  split
  · split
    · next h => exact (approachAtTick_sequenced s k h).trans (completeStep_sequenced _ k)
    · exact countSlotDown_sequenced s k _ (fun t => stepCountdownEnds_sequenced t k)
  · exact countSlotDown_sequenced s k _ (fun t => spacingEnds_sequenced t k)
  · exact .refl _ _

theorem tickSlots_sequenced : Sequenced (fun _ => True) s (tickSlots s) := by
  unfold tickSlots
  split
  · exact foldl_keeps (Sequenced (fun _ => True) s) _
      (fun t j h => h.trans ((tickSlot_sequenced t j).mono (fun _ _ => trivial))) _ s (.refl _ s)
  · exact .refl _ _

theorem terminateAll_sequenced (cause : Cause) : Sequenced (fun _ => True) s (terminateAll cause s) := by
  unfold terminateAll
  refine foldl_keeps (Sequenced (fun _ => True) s) _ (fun t j h => ?_) _ s (.refl _ s)
  split
  · exact h
  · exact h.trans ((terminateNow_sequenced t j cause).mono (fun _ _ => trivial))

/-- An order is placed only for a slot in RUNNING whose step awaits its place, once that place is empty. -/
theorem placeAwaiting_cases : placeAwaiting k s = s ∨
    (s.slot k).state = .running ∧ (s.slot k).order = .awaitingPlace ∧ s.order k = none ∧
      placeAwaiting k s = issueOrder k s := by
  unfold placeAwaiting
  split
  · next h => exact .inr ⟨h.1, h.2.1, h.2.2, rfl⟩
  · exact .inl rfl

theorem placeAwaiting_sequenced : Sequenced (· = k) s (placeAwaiting k s) := by
  obtain h | ⟨-, -, -, h⟩ := placeAwaiting_cases s k
  · rw [h]; exact .refl _ _
  · rw [h]; exact issueOrder_sequenced s k

theorem loseOrder_sequenced : Sequenced (· = k) s (loseOrder k s) := by
  unfold loseOrder
  split
  · exact updSlot_sequenced s k _
  · exact .refl _ _

theorem slotDelivered_sequenced : Sequenced (· = k) s (slotDelivered k s) := by
  unfold slotDelivered
  split
  · dsimp only
    split
    · exact (updSlot_sequenced s k _).trans (completeStep_sequenced _ k)
    · exact updSlot_sequenced s k _
  · exact .refl _ _

theorem handReport_sequenced (p : Nat) : Sequenced (fun _ => True) s (handReport p s) := by
  unfold handReport
  have h1 : Sequenced (fun _ => True) s (takeoverTest p s) := by
    unfold takeoverTest
    split
    · exact .refl _ _
    · split
      · exact .refl _ _
      · dsimp only
        split
        · exact (terminateNow_sequenced s _ _).mono (fun _ _ => trivial)
        · exact .refl _ _
  refine foldl_keeps (Sequenced (fun _ => True) s) _ (fun t j h => ?_) _ _ h1
  unfold offerReport
  dsimp only
  split
  · exact h.trans ((completeStep_sequenced t j).mono (fun _ _ => trivial))
  · exact h

theorem handPassage_sequenced (p id : Nat) : Sequenced (fun _ => True) s (handPassage p id s) := by
  unfold handPassage
  split
  · split
    · exact (completeStep_sequenced s _).mono (fun _ _ => trivial)
    · exact .refl _ _
  · split
    · exact ((bindSlot_sequenced s _ _).trans (completeStep_sequenced _ _)).mono (fun _ _ => trivial)
    · exact .refl _ _

end Sys2Proof.Machine
end

