-- ==== Sys2Proof/Tests/Slice0.lean ====
section
/-! SUPPORT. Tests: the smoke test of WellFormed, values that the manual's worked examples give, and, for every statement with
hypotheses, states and operands that meet them clause by clause (`witness_…`). -/

open Sys2Proof Sys2Proof.Machine

namespace Sys2Proof.Tests

set_option Elab.async false

/-! ### WellFormed refuses ill-formed operands -/

theorem test_wf_refuses_slot : Instr.wf (.slotOrderPlaced 4) = false ∧ Instr.wf (.dwellEnd 4) = false ∧
    Instr.wf (.stepTimeout 4) = false ∧ Instr.wf (.spacingEnd 4) = false := by decide
theorem test_wf_refuses_point : Instr.wf (.flowStale 64) = false ∧ Instr.wf (.holdOffExpiry 64) = false ∧
    Instr.wf (.valveMismatch 64) = false := by decide
theorem test_wf_refuses_run : Instr.wf (.stall 0) = false ∧ Instr.wf (.stall 256) = false := by decide
theorem test_wf_refuses_second_event :
    Instr.wf (.secondEvent [.tracker, .holdOff, .travel, .scan]) = false ∧
    Instr.wf (.secondEvent [.tracker, .tracker, .travel, .scan, .slots]) = false ∧
    Instr.wf (.secondEvent [.tracker, .holdOff, .travel, .scan, .slots, .slots]) = false := by decide
theorem test_wf_accepts : Instr.wf (.secondEvent [.slots, .scan, .travel, .holdOff, .tracker]) = true ∧
    Instr.wf (.slotOrderPlaced 3) = true ∧ Instr.wf (.flowStale 63) = true ∧ Instr.wf (.stall 255) = true := by decide

/-! ### The sections of the manual's examples -/

/-- The section of Table 1-7. -/
def mapA : List Point :=
  [⟨0, some 11, true, some ⟨3200, 2500, some 1⟩, .trap .launcher⟩,
   ⟨1500, some 12, true, some ⟨3200, 2500, none⟩, .meter 60⟩,
   ⟨14000, some 13, true, some ⟨3200, 2500, none⟩, .valve ⟨.mainline, 2000, 200, 120, none⟩⟩,
   ⟨26000, some 14, true, some ⟨2900, 2500, none⟩, .detector 0 30⟩,
   ⟨61000, some 15, true, some ⟨2900, 2500, some 4⟩, .meter 60⟩,
   ⟨98000, some 16, true, some ⟨2900, 2500, none⟩, .trap .receiver⟩,
   ⟨98500, none, false, none, .endPoint⟩]

/-- The section of Table 11-1. -/
def mapB : List Point :=
  [⟨0, some 21, true, some ⟨2500, 2500, some 2⟩, .trap .launcher⟩,
   ⟨50, some 21, true, some ⟨2500, 2500, none⟩, .valve ⟨.launch, 0, 0, 60, some 0⟩⟩,
   ⟨100, some 22, true, some ⟨2500, 2500, none⟩, .meter 60⟩,
   ⟨2700, some 23, true, some ⟨2500, 2500, none⟩, .detector 0 30⟩,
   ⟨5400, some 24, true, some ⟨2500, 2500, none⟩, .detector 0 30⟩,
   ⟨8000, some 25, true, some ⟨2500, 2500, none⟩, .valve ⟨.receive, 0, 0, 60, some 6⟩⟩,
   ⟨8100, some 25, true, some ⟨2500, 2500, none⟩, .trap .receiver⟩,
   ⟨8200, none, false, none, .endPoint⟩]

/-- Class 1 of chapter 11 and class 2 of section 3.10. -/
def classes : List (Option PigClass) :=
  [none, some ⟨900, 100, 10, 1000, 600⟩, some ⟨950, 50, 20, 80, 600⟩, none, none, none, none, none]

/-- The programs of Table 11-2. -/
def steps : SeqTable :=
  { programs := [some ⟨.launch, 0, 0, 5⟩, some ⟨.receive, 6, 10, 6⟩] ++ List.replicate 14 none
    steps := [some ⟨.openValve, some 1, 0, 120, false⟩, some ⟨.insertRun, none, 0, 0, false⟩,
      some ⟨.awaitPassage, some 3, 0, 3600, true⟩, some ⟨.closeValve, some 1, 0, 120, false⟩,
      some ⟨.endCycle, none, 0, 0, false⟩] ++ List.replicate 5 none ++
      [some ⟨.awaitApproach, some 6, 1000, 0, false⟩, some ⟨.openValve, some 5, 0, 120, false⟩,
       some ⟨.dwell, none, 600, 0, false⟩, some ⟨.removeRun, none, 0, 0, false⟩,
       some ⟨.closeValve, some 5, 0, 120, false⟩, some ⟨.endCycle, none, 0, 0, false⟩] ++
      [some ⟨.removeRun, none, 0, 0, false⟩, some ⟨.awaitPassage, some 3, 0, 0, false⟩,
       some ⟨.verifyOpen, some 1, 0, 7, false⟩, some ⟨.verifyClosed, some 1, 0, 7, false⟩,
       some ⟨.dwell, none, 0, 0, false⟩, some ⟨.awaitPassage, some 3, 0, 0, false⟩,
       some ⟨.verifyOpen, some 1, 0, 7, false⟩, some ⟨.openValve, some 1, 0, 120, false⟩] ++ List.replicate 104 none }

/-- The controller on a section, in a mode. -/
def on (m : List Point) (mode : Mode) : State :=
  (rebuildDerived (State.reset.setActive { lineMap := m, classes := classes, seq := steps })).setMode mode

/-- A run of class 2 fixed at point 0 of the first section. -/
def runA (id pos : Nat) : Run :=
  { id := id, cls := 2, state := .moving, position := pos, speed := 0, slip := 950, band := 60000, flowDist := 0,
    lastFix := 0, nextDet := some 3, misses := 0, halted := 0, zoneValve := none, current := 0#11, accrued := 0#11,
    alarmed := 0#11, origin := .adopted, bound := none, insertedAt := 0#32 }

/-- A section with one run in the table, as an adoption leaves the counters. -/
def withRun (r : Run) (s : State) : State :=
  { s with tracker := { s.tracker with runs := [r], lastId := r.id, inserted := 1#32 } }

/-- A live flow record at a meter. -/
def flowing (p q age : Nat) (s : State) : State := s.updFlow p (fun f => { f with q := q, state := .live, age := age })

/-- A request of node 1 with tag 7. -/
def request (code : Nat) (args : List Byte) : Request := ⟨1, 7#8, byte code :: args⟩

/-- The request stands in service. -/
def asked (code : Nat) (args : List Byte) (s : State) : State := s.setInput (some ⟨request code args, .unserved⟩) none

/-- A slot's record changed. -/
def slotWith (k : SlotId) (f : Slot → Slot) (s : State) : State := s.updSlot k f

/-- A telegram holds a port. -/
def holding (p : Port) (t : Tx) (s : State) : State := s.setLink p { s.link p with tx := some t }

/-- A telegram in transmission. -/
def tx (src : TxSource) (f : Frame) (ph : TxPhase) (refusals : Nat) : Tx :=
  { source := src, frame := f, phase := ph, refusals := refusals, placeHeld := false, logged := true }

/-- The CLOSE of the worked example in section 4.8. -/
def closeOrder : Frame := mkFrame 13 1 17 77#8 [2#8, 5#8]

/-- The answer of a RESTART stands in the queue. -/
def restartQueued (s : State) : State := s.setAnswers [⟨mkFrame 1 2 65 7#8 [7#8, 0#8], true⟩]

/-- Four answers: the answer queue is full. -/
def answersFull (s : State) : State := s.setAnswers (List.replicate 4 ⟨mkFrame 1 2 65 7#8 [1#8, 0#8], false⟩)

/-! ### Values of the worked examples -/

/-- Table 2-5 and section 3.10: v = 1,041 mm/s and u = 988 mm/s in stretch 2, v = 1,149 mm/s in stretch 3. -/
theorem test_speed_of_the_examples : flowVelocity 12000 3200 = 1041 ∧ pigSpeed 1041 950 = 988 ∧
    pigSpeed 1041 940 = 978 ∧ flowVelocity 12000 2900 = 1149 ∧ pigSpeed 1149 952 = 1093 := by decide
/-- Section 3.10: the slips after passages 1, 3 and 4. -/
theorem test_slip_of_the_train :
    adaptedSlip 950 (clampSlip (observedSlip 26000000 27100000)) = 952 ∧
    adaptedSlip 940 (clampSlip (observedSlip 26000000 27442140)) = 941 ∧
    adaptedSlip 960 (clampSlip (observedSlip 26000000 27634010)) = 955 := by decide
/-- Section 3.10, passage 1. -/
theorem test_passage_fixes_run :
    ((matchPassage 3 0 41 (withRun { runA 1 25990000 with flowDist := 27100000 } (on mapA .monitor))).state.tracker.runs.map
      (fun r => (r.position, r.band, r.slip, r.nextDet))) = [(26000000, 50000, 952, none)] := by decide +kernel
/-- Table 5-10, the zone of the example valve: 12,000,000 mm to 14,200,000 mm. -/
theorem test_zone_of_the_example : zoneOf mapA 2 ⟨.mainline, 2000, 200, 120, none⟩ = (12000000, 14200000) := by decide
/-- Table 5-10, the rejection of the control unit's CLOSE. -/
theorem test_close_rejected_in_zone :
    checkOrder .control closeOrder (withRun (runA 1 12000000) (on mapA .guarded)) = .reject 1 1 255 ∧
    checkOrder .control closeOrder (withRun (runA 1 11999999) (on mapA .guarded)) = .forward ∧
    checkOrder .control closeOrder (withRun (runA 1 14200000) (on mapA .guarded)) = .reject 1 1 255 ∧
    checkOrder .control closeOrder (withRun (runA 1 14200001) (on mapA .guarded)) = .forward := by decide +kernel
/-- Section 4.8: one second event takes run 1 from 11,999,500 mm to 12,000,488 mm. -/
theorem test_second_event_advances :
    (secondEvent [.tracker, .holdOff, .travel, .scan, .slots]
      (flowing 1 12000 60 (withRun (runA 1 11999500) (on mapA .guarded)))).tracker.runs.map Run.position =
      [12000488] := by decide +kernel
/-- Section 11.2: starting the launch program places OPEN with order tag 128. -/
theorem test_start_places_order :
    ((startStep 0 0 (on mapB .guarded)).order 0).map SlotOrder.frame = some (mkFrame 21 2 17 0#8 [1#8, 128#8]) := by
  decide +kernel
/-- Section 11.2: the slip of run 1 after the late passage at point 4. -/
theorem test_slip_of_the_late_run : adaptedSlip 900 (clampSlip (observedSlip 2700000 3143000)) = 890 := by decide
/-- Section 11.2: SLOT ENDED of the launch train carries 1 × 256 + 4 = 260. -/
theorem test_end_by_count_detail :
    ((endStep 0 (slotWith 0 (fun r => { r with state := .running, program := some 0, step := some 4, count := 0 })
      (on mapB .guarded))).state.log.places.getD 128 none).map (fun r => (r.kind, r.detail)) =
      some (.slotEnded, 260) := by decide +kernel
/-- Both example sections pass validation, and a section without END fails check 3 at its last point. -/
theorem test_example_maps_validate : validateMap steps mapB = none ∧ validateMap Tables.empty.seq mapA = none ∧
    validateMap Tables.empty.seq (mapA.take 6) = some (3, 5) := by decide +kernel
/-- Section 1.7: the reload of point 3 with flow source 2 fails check 6 at point 3. -/
theorem test_flow_source_not_a_meter :
    validateMap Tables.empty.seq (mapA.set 3 ⟨26000, some 14, true, some ⟨2900, 2500, some 2⟩, .detector 0 30⟩) =
      some (6, 3) := by decide +kernel
/-- Section 8.8: a mask of 120 on node 8 takes nodes 8 to 15. -/
theorem test_watch_mask : WatchEntry.hits true 13 33 ⟨true, 8, 120, none, .up, false⟩ = true ∧
    WatchEntry.hits true 16 33 ⟨true, 8, 120, none, .up, false⟩ = false := by decide
/-- R76: the check of the nine bytes 49 to 57 with this generator and preset is 10,673 (the published check value). -/
theorem test_crc_check_value : crc [49#8, 50#8, 51#8, 52#8, 53#8, 54#8, 55#8, 56#8, 57#8] = 10673#16 := by decide +kernel
/-- Table 5-9: a closing report after 4 seconds writes detail 20 and keeps the expected order. -/
theorem test_valve_report_detail :
    ((takeValveReport 2 [4#8, 95#8, 0#8, 9#8] ((on mapA .guarded).updValve 2 (fun v => { v with
      state := .opened, location := .remote, expected := some ⟨.closed, 116, .control⟩ }))).log.places.getD 128 none).map
      LogRecord.detail = some 20 := by decide +kernel

/-! ### Witnesses: the machine and its lines -/

theorem witness_StepRunsFrontCommand : State.reset.pending = [] := by decide
theorem witness_WellFormedCommandsAnswerNext :
    Instr.wf (.secondEvent [.tracker, .holdOff, .travel, .scan, .slots]) = true ∧ Instr.wf (.stall 256) = false := by decide

/-- The relay is closed. -/
def unpowered : State := { on mapA .guarded with lines := { (on mapA .guarded).lines with bypassClosed := true } }

theorem witness_ClosedRelayStopsEverything : unpowered.lines.bypassClosed = true ∧ Instr.wf (.stall 255) = true ∧
    (∀ straps, Instr.stall 255 ≠ .powerOn straps) := ⟨by decide, by decide, fun _ h => by cases h⟩
theorem witness_WarmRestartTakesEffect : (on mapA .guarded).powered = true ∧ 1000 ≤ 1000 ∧ 999 < 1000 := by decide +kernel

/-- Slot 0 waits for its place, slot 1 has its order in its place. -/
def twoOrders : State :=
  ((slotWith 1 (fun r => { r with state := .running, order := .queued })
    (slotWith 0 (fun r => { r with state := .running, order := .awaitingPlace }) (on mapB .guarded))).setOrder 1
      (some ⟨closeOrder, false, false⟩))

theorem witness_LinkClearEmptiesThePath :
    (twoOrders.powered = true ∧ 999 < 1000) ∧
    (1000 ≤ 1000 ∧ twoOrders.portA.answers.any Answer.restart = false ∧ twoOrders.inputSettled = true ∧
      (twoOrders.slot 0).state = .running ∧ (twoOrders.slot 0).order = .awaitingPlace ∧
      ¬((twoOrders.slot 1).state = .running ∧ (twoOrders.slot 1).order = .awaitingPlace)) ∧
    ((restartQueued twoOrders).powered = true ∧ (restartQueued twoOrders).portA.answers.any Answer.restart = true) ∧
    ((asked 6 [] twoOrders).powered = true ∧ (asked 6 [] twoOrders).mgmt.service = some ⟨request 6 [], .unserved⟩ ∧
      (request 6 []).payload = [6#8] ∧ (asked 6 [] twoOrders).mgmt.waiting.elim true Request.known = true ∧
      (asked 6 [] twoOrders).portA.answers.any Answer.restart = false) := by decide +kernel

/-! ### Witnesses: telegrams, records and conditions -/

theorem witness_MadeTelegramsReadBack :
    127 ≤ 127 ∧ 1 ≤ 1 ∧ 126 ≤ 126 ∧ 255 ≤ 255 ∧ (List.replicate 48 0#8 : List Byte).length ≤ 48 := by decide

theorem witness_TableRecordsReadBack :
    (∀ x ∈ mapA ++ mapB, parsePoint (encodePoint x) = some x) ∧
    parseClass (0#8 :: encodeClass ⟨950, 50, 20, 80, 600⟩) = some ⟨950, 50, 20, 80, 600⟩ ∧
    parseProgram [0#8, 1#8, 0#8, 0#8, 5#8] = some ⟨.launch, 0, 0, 5⟩ ∧
    parseStep [127#8, 8#8, 63#8, 195#8, 80#8, 28#8, 32#8, 1#8] = some ⟨.awaitApproach, some 63, 50000, 7200, true⟩ ∧
    parseWatch [7#8, 1#8, 127#8, 127#8, 1#8, 0#8, 2#8, 1#8] = some ⟨true, 127, 127, none, .either, true⟩ := by decide +kernel

/-- The highest condition is set. -/
def linkWasCleared : State :=
  { on mapA .guarded with mgmt := { (on mapA .guarded).mgmt with conditions := condBit 12 } }

theorem witness_ConditionsRiseAndAlert : 12 < 13 ∧ linkWasCleared.mgmt.conditions.getLsbD 12 = true ∧
    linkWasCleared.mgmt.conditions.getLsbD 0 = false ∧ condBit 12 ≠ 0#13 := by decide +kernel

/-! ### Witnesses: receiving -/

/-- A frame that a link clear cut. -/
def cutShort : State := State.reset.setLink .a { State.reset.portA.link with abandoned := true }
/-- A frame is being received. -/
def midFrame : State := State.reset.setLink .b { State.reset.portB.link with receiving := true }

theorem witness_BadTelegramsAreCounted :
    (State.reset.powered = true ∧ State.reset.listening .a = true ∧ frameBad [] = true) ∧
    (cutShort.powered = true ∧ cutShort.listening .a = false) ∧
    (State.reset.link .b).receiving = false ∧ (midFrame.powered = true ∧ (midFrame.link .b).receiving = true) := by
  decide +kernel

/-- A request telegram. -/
def askStatus : Frame := mkFrame 2 1 64 7#8 [1#8]
/-- A telegram of another kind to the controller. -/
def toOwn : Frame := mkFrame 2 1 18 7#8 []
/-- Only node 9 may manage. -/
def managed : State := { State.reset with mgmt := { State.reset.mgmt with config := { Config.initial with managerNode := 9 } } }
/-- Both places of the input slot are occupied. -/
def inputFull : State := State.reset.setInput (some ⟨request 1 [], .unserved⟩) (some (request 1 []))
/-- The down queue is full. -/
def downFull (drop : Bool) : State :=
  { State.reset with mgmt := { State.reset.mgmt with config := { Config.initial with downDrop := drop } } }.setDown
    (List.replicate 16 closeOrder)

theorem witness_PortAReceives :
    (State.reset.powered = true ∧ State.reset.listening .a = true ∧ frameBad askStatus = false ∧ frameBad toOwn = false ∧
      frameBad closeOrder = false) ∧
    (answersFull State.reset).freePlaces = 0 ∧
    (0 < State.reset.freePlaces ∧ State.reset.lines.nodeNumber = some (frameDest toOwn) ∧ frameKind toOwn ≠ 64) ∧
    (managed.lines.nodeNumber = some (frameDest askStatus) ∧ frameKind askStatus = 64 ∧
      managed.mgmt.config.managerNode ≠ 0 ∧ managed.mgmt.config.managerNode ≠ frameSource askStatus) ∧
    (inputFull.mgmt.config.managerNode = 0 ∧ inputFull.mgmt.service.isSome = true ∧
      inputFull.mgmt.waiting.isSome = true ∧ 0 < inputFull.freePlaces) ∧
    ((asked 1 [] State.reset).mgmt.service.isSome = true ∧ (asked 1 [] State.reset).mgmt.waiting = none) ∧
    (State.reset.mgmt.service = none ∧ (request 1 []).known = true) ∧
    (State.reset.lines.nodeNumber ≠ some (frameDest closeOrder) ∧ State.reset.portA.down.length < 16) ∧
    (16 ≤ (downFull false).portA.down.length ∧ (downFull false).mgmt.config.downDrop = false ∧
      0 < (downFull false).freePlaces) ∧
    (16 ≤ (downFull true).portA.down.length ∧ (downFull true).mgmt.config.downDrop = true) := by decide +kernel

/-- A valve report of node 13 to the control unit. -/
def valveReport : Frame := mkFrame 1 13 33 0#8 [1#8, 100#8, 0#8, 5#8]
/-- The up queue is full. -/
def upFull (drop : Bool) : State :=
  { State.reset with mgmt := { State.reset.mgmt with config := { Config.initial with upDrop := drop } } }.setUp
    (List.replicate 24 valveReport)

/-- A field telegram of a node to the control unit. -/
def fieldReport (node kind : Nat) (payload : List Byte) : Frame := mkFrame 1 node kind 0#8 payload

theorem witness_PortBReceives :
    ((State.reset.powered = true ∧ State.reset.listening .b = true ∧ frameBad valveReport = false ∧ frameBad toOwn = false) ∧
      State.reset.lines.nodeNumber = some (frameDest toOwn) ∧
      (State.reset.lines.nodeNumber ≠ some (frameDest valveReport) ∧ State.reset.portB.up.length < 24) ∧
      (24 ≤ (upFull false).portB.up.length ∧ (upFull false).mgmt.config.upDrop = false) ∧
      (24 ≤ (upFull true).portB.up.length ∧ (upFull true).mgmt.config.upDrop = true) ∧
      State.reset.mgmt.mode = .transparent) ∧
    (on mapA .monitor).mgmt.mode ≠ .transparent ∧
    (detectorOfNode (on mapA .monitor).map 14 0 = some 3 ∧ detectorOfNode (on mapA .monitor).map 14 1 = none ∧
      (takePassage 3 [0#8, 1#8, 0#8] (hearNode 14 (on mapA .monitor))).run = none ∧
      (takePassage 3 [0#8, 1#8, 0#8] (hearNode 14 (withRun (runA 1 25990000) (on mapA .monitor)))).run = some 1) ∧
    (frameKind (fieldReport 14 34 [0#8, 1#8, 0#8]) = 34 ∧ (framePayload (fieldReport 14 34 [0#8, 1#8, 0#8])).length = 3 ∧
      (framePayload (fieldReport 14 34 [0#8, 1#8])).length < 3) ∧
    (frameKind (fieldReport 12 35 [0#8, 1#8, 0#8, 0#8]) = 35 ∧
      (framePayload (fieldReport 12 35 [0#8, 1#8, 0#8, 0#8])).length = 4 ∧
      (framePayload (fieldReport 12 35 [0#8, 1#8, 0#8])).length < 4) ∧
    (frameKind valveReport = 33 ∧ (framePayload valveReport).length = 4 ∧ frameSource valveReport = 13 ∧
      valveOfNode (on mapA .monitor).map 13 = some 2 ∧ valveOfNode (on mapA .monitor).map 14 = none) ∧
    (frameKind (fieldReport 14 36 [0#8]) = 36 ∧ (framePayload (fieldReport 14 36 [0#8])).length = 1 ∧
      (framePayload (fieldReport 14 36 [])).length < 1) ∧
    frameKind toOwn = 18 := by decide +kernel

/-- The watch entries of section 8.8. -/
def watching : State :=
  State.reset.setWatch ([⟨true, 13, 127, some 17, .down, true⟩, ⟨true, 8, 120, none, .up, false⟩] ++
    List.replicate 6 WatchEntry.initial)

/-- A log whose circles stand at these write indices, all places counted. -/
def circles (half whole : Nat) (frozen : Bool) : EventLog :=
  { EventLog.initial with lower := ⟨half, 128⟩, upper := ⟨half, 128⟩, whole := ⟨whole, 256⟩, frozen := frozen }

theorem witness_WatchListActsOnFirstHit :
    ((∀ w ∈ State.reset.tables.watch, w.enabled = false) ∧
      watching.tables.watch = [⟨true, 13, 127, some 17, .down, true⟩] ++ ⟨true, 8, 120, none, .up, false⟩ ::
        List.replicate 6 WatchEntry.initial ∧
      (∀ x ∈ [(⟨true, 13, 127, some 17, .down, true⟩ : WatchEntry)], ¬(x.kind = none ∨ x.kind = some (frameKind valveReport))) ∧
      ((13 ^^^ 8) &&& 120 = 0 ∧ frameSource valveReport = 13)) ∧
    ((circles 127 255 true).frozen = true ∧ (circles 127 255 false).frozen = false ∧
      (circles 127 255 false).whole.write < 256 ∧ (circles 127 255 false).whole.valid ≤ 256 ∧
      (circles 127 255 false).lower.write < 128 ∧ (circles 127 255 false).lower.valid ≤ 128 ∧
      (circles 127 255 false).upper.write < 128 ∧ (circles 127 255 false).upper.valid ≤ 128 ∧
      LogKind.anomalyAlarm ∈ ([.runInserted, .anomalyAlarm] : List LogKind) ∧
      LogKind.orderForwarded ∉ ([.runInserted, .runAdopted, .runReceived, .runExited, .runAbandoned, .runRepositioned,
        .passageMatched, .passageOrphan, .detectorMissed, .runLost, .anomalyAlarm] : List LogKind)) ∧
    (State.reset.log.frozen = false ∧ State.reset.mgmt.config.logMode ≠ .off) := by decide +kernel

theorem recordsFollow_onA : (on mapA .monitor).RecordsFollowMap := by unfold State.RecordsFollowMap; decide +kernel
theorem recordsFollow_onAGuarded : (on mapA .guarded).RecordsFollowMap := by unfold State.RecordsFollowMap; decide +kernel

/-- A flow report of node 12 to the controller. -/
def flowReport : Frame := mkFrame 2 12 35 0#8 [35#8, 40#8, 0#8, 0#8]

/-- Node 14 is SILENT and its detector uncovered. -/
def silent14 : State := coverNode 14 false ((on mapA .monitor).updNode 14 (fun r => { r with silent := true }))
/-- A NODE STATE of node 14 to the controller. -/
def hello14 : Frame := mkFrame 2 14 36 0#8 [0#8]

theorem recordsFollow_silent14 : silent14.RecordsFollowMap := by unfold State.RecordsFollowMap; decide +kernel

theorem witness_FieldReportsChangeTheirRecord :
    ((on mapA .monitor).powered = true ∧ (on mapA .monitor).listening .b = true ∧ frameBad flowReport = false ∧
      (on mapA .monitor).lines.nodeNumber = some (frameDest flowReport) ∧ (on mapA .monitor).mgmt.mode ≠ .transparent ∧
      frameKind flowReport ≠ 33 ∧ frameKind flowReport ≠ 34) ∧ (on mapA .monitor).RecordsFollowMap ∧
    (silent14.powered = true ∧ silent14.listening .b = true ∧ frameBad hello14 = false ∧
      silent14.lines.nodeNumber = some (frameDest hello14) ∧ frameKind hello14 = 36 ∧
      (silent14.node (frameSource hello14)).any NodeRec.silent = true ∧
      (silent14.detector 3).map DetectorRec.covered = some false) ∧ silent14.RecordsFollowMap :=
  ⟨by decide +kernel, recordsFollow_onA, by decide +kernel, recordsFollow_silent14⟩

/-! ### Witnesses: transmitting -/

/-- An ALERT waits. -/
def alerted : State := State.reset.setAlert (some ⟨9, 0x8001#16, 0#32⟩)

theorem witness_PortAGrantsInFixedOrder :
    State.reset.powered = true ∧ ((holding .a (tx .up valveReport .sending 0) State.reset).link .a).tx.isSome = true ∧
    (State.reset.link .a).tx = none ∧
    (answersFull State.reset).portA.answers =
      ⟨mkFrame 1 2 65 7#8 [1#8, 0#8], false⟩ :: List.replicate 3 ⟨mkFrame 1 2 65 7#8 [1#8, 0#8], false⟩ ∧
    (alerted.portA.answers = [] ∧ alerted.portA.alert = some ⟨9, 0x8001#16, 0#32⟩) ∧
    ((upFull false).portA.answers = [] ∧ (upFull false).portA.alert = none ∧
      (upFull false).portB.up = valveReport :: List.replicate 23 valveReport) ∧
    (State.reset.portA.answers = [] ∧ State.reset.portA.alert = none ∧ State.reset.portB.up = []) := by decide +kernel

/-- Two nodes to poll, with a burst count, and a down queue. -/
def polling (burst : Nat) (down : List Frame) (s : State) : State :=
  let s := (s.setPollList [11, 12]).setDown down
  { s with portB := { s.portB with burst := burst } }
/-- The head of the down queue waits with nothing to poll. -/
def forwarding (f : Frame) (s : State) : State := s.setDown [f]
/-- A run in the zone of the valve of closeOrder. -/
def occupied : State := withRun (runA 1 12000000) (on mapA .guarded)

/-- A VALVE ORDER without its tag byte. -/
def shortOrder : Frame := mkFrame 13 1 17 0#8 [2#8]
/-- A full VALVE ORDER that finds no place of the answer queue waits. -/
def orderWaits (s : State) : Bool := s.mgmt.mode == .guarded && decide (s.freePlaces ≤ s.claimed)

theorem witness_PortBGrantsPollsAndForwards :
    ((on mapA .guarded).powered = true ∧ ((on mapA .guarded).link .b).tx = none ∧ (∀ k, (on mapA .guarded).order k = none)) ∧
    ((polling 1 [toOwn] (on mapA .guarded)).scan.pollList = [11, 12] ∧
      (polling 1 [toOwn] (on mapA .guarded)).portB.burst < 2 ∧ (polling 2 [] (on mapA .guarded)).portA.down.head? = none ∧
      (polling 2 [closeOrder] (answersFull (on mapA .guarded))).portA.down.head? = some closeOrder ∧
      orderWaits (polling 2 [closeOrder] (answersFull (on mapA .guarded))) = true) ∧
    ((on mapA .guarded).scan.pollList = [] ∧ (on mapA .guarded).portA.down.head? = none ∧
      (forwarding closeOrder (answersFull (on mapA .guarded))).scan.pollList = [] ∧
      orderWaits (forwarding closeOrder (answersFull (on mapA .guarded))) = true) ∧
    ((polling 2 [toOwn] (on mapA .guarded)).portA.down = toOwn :: [] ∧ 2 ≤ (polling 2 [toOwn] (on mapA .guarded)).portB.burst ∧
      frameKind toOwn ≠ 17 ∧ frameKind shortOrder = 17 ∧ (framePayload shortOrder).length < 2 ∧
      (forwarding closeOrder (on mapA .transparent)).mgmt.mode = .transparent ∧
      (forwarding closeOrder (on mapA .monitor)).mgmt.mode = .monitor) ∧
    ((forwarding closeOrder (on mapA .guarded)).scan.pollList = [] ∧ frameKind closeOrder = 17 ∧
      2 ≤ (framePayload closeOrder).length ∧ (forwarding closeOrder (on mapA .guarded)).mgmt.mode = .guarded ∧
      (forwarding closeOrder (on mapA .guarded)).claimed < (forwarding closeOrder (on mapA .guarded)).freePlaces ∧
      checkOrder .control closeOrder (forwarding closeOrder (on mapA .guarded)) = .forward) ∧
    ((forwarding closeOrder occupied).claimed < (forwarding closeOrder occupied).freePlaces ∧
      checkOrder .control closeOrder (forwarding closeOrder occupied) = .reject 1 1 255) := by decide +kernel

/-- Slot 1's order to the MAINLINE valve waits in its place, begun nowhere. -/
def placed (s : State) : State := s.setOrder 1 (some ⟨closeOrder, false, false⟩)
/-- The valve is reserved by slot 2. -/
def reservedBy2 : State := (on mapA .guarded).updValve 2 (fun v => { v with reserving := some 2 })

/-- It is FORWARD's turn under ROTATING. -/
def forwardTurn (s : State) : State := { s with portB := { s.portB with turnForward := true } }
/-- Each place holds an un-begun order of this check in GUARDED. -/
def checksTo (c : Check) (s : State) : Bool :=
  s.mgmt.mode == .guarded && (s.order 1).elim false (fun o => !o.begun && checkOrder (.slot 1) o.frame s == c)

theorem witness_PortBGrantsSlotOrders :
    ((placed (on mapA .guarded)).powered = true ∧ ((placed (on mapA .guarded)).link .b).tx = none) ∧
    ((∀ j, (on mapA .guarded).order j = none) ∧ checksTo .hold (placed occupied) = true ∧
      (∀ j, j ≠ 1 → (placed occupied).order j = none)) ∧
    ((forwardTurn (forwarding toOwn (placed (on mapA .guarded)))).mgmt.config.rotating = true ∧
      (forwardTurn (forwarding toOwn (placed (on mapA .guarded)))).portB.turnForward = true ∧
      (forwardTurn (forwarding toOwn (placed (on mapA .guarded)))).portA.down.head? = some toOwn ∧ frameKind toOwn ≠ 17) ∧
    ((placed (polling 1 [] (on mapA .guarded))).scan.pollList ≠ [] ∧ (placed (polling 1 [] (on mapA .guarded))).portB.burst < 2) ∧
    ((placed (on mapA .guarded)).order 1 = some ⟨closeOrder, false, false⟩ ∧ isFullOrder closeOrder = true ∧
      (∀ j, j ≠ 1 → (placed (on mapA .guarded)).order j = none) ∧ (placed (on mapA .guarded)).portB.turnForward = false ∧
      (placed (on mapA .guarded)).scan.pollList = [] ∧ (placed (polling 2 [toOwn] (on mapA .guarded))).portB.burst = 2) ∧
    (placed (on mapA .transparent)).mgmt.mode = .transparent ∧ (placed (on mapA .monitor)).mgmt.mode = .monitor ∧
    checksTo .forward (placed (on mapA .guarded)) = true ∧ checksTo (.reject 2 0 2) (placed reservedBy2) = true := by
  decide +kernel

/-- The head of the down queue in a phase of its transmission. -/
def sendingDown (ph : TxPhase) (refusals : Nat) (s : State) : State :=
  holding .b (tx .down closeOrder ph refusals) (forwarding closeOrder s)

theorem witness_RefusedAttemptsEndOrRepeat :
    (sendingDown .sending 0 (on mapA .guarded)).holds .b (tx .down closeOrder .sending 0) .sending = true ∧
    (sendingDown .awaiting 15 (on mapA .guarded)).holds .b (tx .down closeOrder .awaiting 15) .awaiting = true ∧
    ((∀ ph ∈ ([.sending, .refused, .waitingPlace] : List TxPhase),
        (sendingDown ph 1 (on mapA .guarded)).powered = true ∧
        ((sendingDown ph 1 (on mapA .guarded)).link .b).tx.any (fun u => u.phase != .awaiting) = true) ∧
      State.reset.powered = true ∧ (State.reset.link .b).tx = none) ∧
    ((sendingDown .refused 15 (on mapA .monitor)).holds .b (tx .down closeOrder .refused 15) .refused = true ∧ 15 < 16 ∧
      (sendingDown .refused 15 (on mapA .monitor)).mgmt.mode ≠ .guarded) ∧
    ((sendingDown .refused 16 (on mapA .guarded)).holds .b (tx .down closeOrder .refused 16) .refused = true ∧
      (sendingDown .refused 16 (on mapA .guarded)).inputSettled = true ∧ 16 ≤ 16) ∧
    ((holding .b (tx .poll toOwn .refused 16) State.reset).holds .b (tx .poll toOwn .refused 16) .refused = true) ∧
    ((holding .a (tx .up valveReport .refused 16) (upFull false)).holds .a (tx .up valveReport .refused 16) .refused = true) ∧
    ((holding .a (tx .answer toOwn .refused 16) (answersFull State.reset)).holds .a (tx .answer toOwn .refused 16) .refused =
        true ∧ (answersFull State.reset).portA.answers.head?.map Answer.restart = some false) ∧
    ((holding .a (tx .answer toOwn .refused 16) (restartQueued State.reset)).holds .a (tx .answer toOwn .refused 16) .refused =
        true ∧ (restartQueued State.reset).portA.answers.head?.map Answer.restart = some true) ∧
    ((holding .b (tx (.slot 1) closeOrder .refused 16) (placed (on mapA .guarded))).holds .b
      (tx (.slot 1) closeOrder .refused 16) .refused = true) := by decide +kernel

theorem witness_AcceptDeliversTheTelegram :
    ((holding .a (tx .up valveReport .awaiting 0) (upFull false)).holds .a (tx .up valveReport .awaiting 0) .awaiting = true ∧
      (upFull false).inputSettled = true) ∧
    (holding .b (tx .poll toOwn .awaiting 0) State.reset).holds .b (tx .poll toOwn .awaiting 0) .awaiting = true ∧
    ((holding .b (tx .down toOwn .awaiting 0) (forwarding toOwn State.reset)).holds .b (tx .down toOwn .awaiting 0) .awaiting =
        true ∧ isFullOrder toOwn = false) ∧
    ((holding .a (tx .answer toOwn .awaiting 0) (answersFull State.reset)).holds .a (tx .answer toOwn .awaiting 0) .awaiting =
        true ∧ (answersFull State.reset).portA.answers.head?.map Answer.restart = some false) ∧
    ((holding .a (tx .answer toOwn .awaiting 0) (restartQueued State.reset)).holds .a (tx .answer toOwn .awaiting 0) .awaiting = true ∧
      (restartQueued State.reset).portA.answers.head?.map Answer.restart = some true) := by decide +kernel

/-- Slot 1 at the step that closes valve 1, its order in transmission. -/
def slotSending : State :=
  holding .b (tx (.slot 1) (mkFrame 21 2 17 1#8 [2#8, 131#8]) .awaiting 0)
    ((slotWith 1 (fun r => { r with state := .running, program := some 0, step := some 3, order := .queued })
      (on mapB .guarded)).setOrder 1 (some ⟨mkFrame 21 2 17 1#8 [2#8, 131#8], true, true⟩))

theorem recordsFollow_slotSending : slotSending.RecordsFollowMap := by unfold State.RecordsFollowMap; decide +kernel
theorem recordsFollow_sendingDown : (sendingDown .awaiting 0 (on mapA .guarded)).RecordsFollowMap := by
  unfold State.RecordsFollowMap; decide +kernel

/-- The state of the valve of point 1. -/
def valveStands (st : ValveState) (s : State) : State := s.updValve 1 (fun v => { v with state := st })
/-- A broadcast order, or one to a node without a valve, in transmission. -/
def sendingTo (dest : Nat) (s : State) : State :=
  holding .b (tx .down (mkFrame dest 1 17 0#8 [1#8, 5#8]) .awaiting 0) (forwarding (mkFrame dest 1 17 0#8 [1#8, 5#8]) s)

theorem recordsFollow_sendingTo (dest : Nat) : (sendingTo dest (on mapA .guarded)).RecordsFollowMap := recordsFollow_onAGuarded

theorem witness_DeliveredOrderIsExpected :
    ((sendingDown .awaiting 0 (on mapA .guarded)).holds .b (tx .down closeOrder .awaiting 0) .awaiting = true ∧
      (sendingDown .awaiting 0 (on mapA .guarded)).inputSettled = true ∧
      (sendingDown .awaiting 0 (on mapA .guarded)).mgmt.mode ≠ .transparent ∧ isFullOrder closeOrder = true ∧
      frameDest closeOrder ≠ 127 ∧ valveOfNode (sendingDown .awaiting 0 (on mapA .guarded)).map (frameDest closeOrder) = some 2 ∧
      valvePart (sendingDown .awaiting 0 (on mapA .guarded)).map 2 = some ⟨.mainline, 2000, 200, 120, none⟩) ∧
    ((sendingDown .awaiting 0 (on mapA .transparent)).mgmt.mode = .transparent ∧
      (sendingTo 99 (on mapA .guarded)).holds .b (tx .down (mkFrame 99 1 17 0#8 [1#8, 5#8]) .awaiting 0) .awaiting = true ∧
      frameDest (mkFrame 99 1 17 0#8 [1#8, 5#8]) = 99 ∧ valveOfNode (on mapA .guarded).map 99 = none ∧
      (sendingTo 127 (on mapA .guarded)).holds .b (tx .down (mkFrame 127 1 17 0#8 [1#8, 5#8]) .awaiting 0) .awaiting = true ∧
      frameDest (mkFrame 127 1 17 0#8 [1#8, 5#8]) = 127 ∧ isFullOrder (mkFrame 127 1 17 0#8 [1#8, 5#8]) = true) ∧
    (slotSending.holds .b (tx (.slot 1) (mkFrame 21 2 17 1#8 [2#8, 131#8]) .awaiting 0) .awaiting = true ∧
      slotSending.inputSettled = true ∧ slotSending.mgmt.mode ≠ .transparent ∧
      isFullOrder (mkFrame 21 2 17 1#8 [2#8, 131#8]) = true ∧ valveOfNode slotSending.map 21 = some 1 ∧
      valvePart slotSending.map 1 = some ⟨.launch, 0, 0, 60, some 0⟩ ∧
      (slotSending.slot 1).state = .running ∧ (slotSending.slot 1).order = .queued ∧ (slotSending.slot 1).step = some 3 ∧
      slotSending.stepAt 3 = some ⟨.closeValve, some 1, 0, 120, false⟩ ∧ slotSending.believed 1 .closed = false ∧
      (valveStands .closed slotSending).believed 1 .closed = true ∧
      ((slotWith 1 (fun r => { r with order := .awaitingPlace }) slotSending).slot 1).order ≠ .queued) := by decide +kernel

/-- Slot 1's order refused, to be repeated. -/
def slotRefused (s : State) : State := holding .b (tx (.slot 1) closeOrder .refused 15) (placed s)

theorem witness_WaitingOrdersTakeTheirPlace :
    ((sendingDown .refused 15 (answersFull (on mapA .guarded))).mgmt.mode = .guarded ∧ isFullOrder closeOrder = true ∧
      (tx .down closeOrder .refused 15).placeHeld = false ∧
      (sendingDown .refused 15 (answersFull (on mapA .guarded))).holds .b (tx .down closeOrder .refused 15) .refused = true ∧
      (sendingDown .refused 15 (answersFull (on mapA .guarded))).freePlaces ≤
        (sendingDown .refused 15 (answersFull (on mapA .guarded))).claimed) ∧
    ((sendingDown .refused 15 (on mapA .guarded)).holds .b (tx .down closeOrder .refused 15) .refused = true ∧
      (sendingDown .refused 15 (on mapA .guarded)).claimed < (sendingDown .refused 15 (on mapA .guarded)).freePlaces ∧
      checkOrder .control closeOrder (sendingDown .refused 15 (on mapA .guarded)) = .forward ∧
      checkOrder .control closeOrder (sendingDown .refused 15 occupied) = .reject 1 1 255) ∧
    ((sendingDown .waitingPlace 1 (answersFull (on mapA .guarded))).holds .b (tx .down closeOrder .waitingPlace 1)
        .waitingPlace = true ∧
      (sendingDown .waitingPlace 1 (answersFull (on mapA .guarded))).freePlaces ≤
        (sendingDown .waitingPlace 1 (answersFull (on mapA .guarded))).claimed) ∧
    ((sendingDown .waitingPlace 1 (on mapA .guarded)).claimed < (sendingDown .waitingPlace 1 (on mapA .guarded)).freePlaces ∧
      checkOrder .control closeOrder (sendingDown .waitingPlace 1 (on mapA .guarded)) = .forward ∧
      checkOrder .control closeOrder (sendingDown .waitingPlace 1 occupied) = .reject 1 1 255) ∧
    ((sendingDown .waitingPlace 1 (on mapA .monitor)).mgmt.mode ≠ .guarded ∧
      (sendingDown .waitingPlace 1 (on mapA .monitor)).holds .b (tx .down closeOrder .waitingPlace 1) .waitingPlace = true) ∧
    ((slotRefused (on mapA .guarded)).holds .b (tx (.slot 1) closeOrder .refused 15) .refused = true ∧
      checksTo .forward (slotRefused (on mapA .guarded)) = true ∧ checksTo .hold (slotRefused occupied) = true ∧
      checksTo (.reject 2 0 2) (slotRefused reservedBy2) = true) ∧
    (twoOrders.powered = true ∧ (twoOrders.slot 0).state = .running ∧ (twoOrders.slot 0).order = .awaitingPlace ∧
      twoOrders.order 0 = none ∧ twoOrders.lines.nodeNumber = some 2) ∧
    ¬((twoOrders.slot 1).state = .running ∧ (twoOrders.slot 1).order = .awaitingPlace ∧ twoOrders.order 1 = none) ∧
    (slotWith 0 (fun r => { r with step := some 3 }) twoOrders).stepAt 3 = some ⟨.closeValve, some 1, 0, 120, false⟩ := by
  decide +kernel

/-! ### Witnesses: the second event -/

/-- The five parts in the order that the manual's first paragraph names the blocks. -/
def inOrder : List SecondWork := [.tracker, .holdOff, .travel, .scan, .slots]

theorem witness_SecondEventTicksTheClock :
    State.reset.powered = true ∧ SecondWork.wf inOrder = true ∧ State.reset.mgmt.mode = .transparent ∧
    State.reset.tables.pendingCommit = none ∧ State.reset.mgmt.service = none := by decide +kernel

/-- A COMMIT is taken, and the shadow holds a section, the classes and the programs. -/
def committing (t : TableId) (m : List Point) (active : List Point) : State :=
  let s := (on active .transparent).setShadow { lineMap := m, classes := classes, seq := steps }
  { s with tables := { s.tables with pendingCommit := some t } }.setInput (some ⟨request 15 [byte t.code], .commitTaken⟩) none

/-- A COMMIT was applied and its answer waits. -/
def applied : State := State.reset.setInput (some ⟨request 15 [0#8], .commitApplied 0 [0#8, 7#8, 6#8]⟩) none

/-- The same commit in a mode, with a run in the table. -/
def committingIn (m : Mode) (t : TableId) : State := (withRun (runA 1 7099999) (committing t mapB mapB)).setMode m

theorem witness_CommitAppliesAtSecondEvent :
    ((committing .lineMap mapB mapB).powered = true ∧ SecondWork.wf inOrder = true ∧ inOrder.head? = some .tracker ∧
      (committing .lineMap mapB mapB).mgmt.mode = .transparent ∧
      (committing .lineMap mapB mapB).tables.pendingCommit = some .lineMap ∧
      (committing .lineMap mapB mapB).mgmt.service = some ⟨request 15 [0#8], .commitTaken⟩ ∧
      (committing .lineMap mapB mapB).mgmt.waiting.elim true Request.known = true ∧
      (request 15 [0#8]).payload = [15#8, byte (TableId.code .lineMap)] ∧ 0 < (committing .lineMap mapB mapB).freePlaces ∧
      (committing .lineMap mapB mapB).commitError .lineMap = none) ∧
    (committing .lineMap (mapB.take 7) mapB).commitError .lineMap = some (3, 6) ∧
    (∀ m ∈ ([.transparent, .monitor, .guarded] : List Mode), (committingIn m .classes).tables.pendingCommit = some .classes ∧
      (committingIn m .classes).commitError .classes = none ∧ (committingIn m .classes).tracker.runs = [runA 1 7099999] ∧
      (∀ c ∈ (committingIn m .classes).tables.shadow.classes, c.elim true (fun x => decide (x.band0 ≤ x.bandMax)) = true)) ∧
    (committing .sequence mapB mapB).commitError .sequence = none ∧
    (applied.powered = true ∧ applied.mgmt.service = some ⟨request 15 [0#8], .commitApplied 0 [0#8, 7#8, 6#8]⟩ ∧
      (request 15 [0#8]).payload = byte 15 :: [0#8] ∧ 15 ≤ 255 ∧ 0 < applied.freePlaces ∧
      (answersFull applied).freePlaces = 0) := by decide +kernel

theorem witness_ValidatedMapIsSound : validateMap steps mapB = none ∧ 6 + 1 < mapB.length ∧ mapB.length ≤ 64 ∧
    validateMap steps [] = some (1, 255) ∧ validateSequence mapB { steps with steps := List.replicate 128 none } = some (11, 0) ∧
    validateClasses (on mapB .monitor) (List.replicate 8 none) = some (1, 255) ∧
    validateClasses (withRun (runA 1 0) (on mapB .monitor)) (classes.set 2 none) = some (10, 2) := by decide +kernel

theorem witness_AdvanceArithmetic :
    (mapA.Pairwise (fun a b => a.chainage < b.chainage) ∧ 2 + 1 < mapA.length ∧ 2 + 2 < mapA.length ∧
      chainMm mapA 2 ≤ 14000000 ∧ 14000000 < chainMm mapA (2 + 1) ∧ 5 + 1 < mapA.length ∧ ¬ (5 + 2 < mapA.length) ∧
      chainMm mapA 5 ≤ 98500000) ∧
    (FlowRec.initial 1).state = .none ∧ (⟨1, 5, .live, true, 9⟩ : FlowRec).rev = true ∧
    (⟨1, 5, .stale, false, 0⟩ : FlowRec).state = .stale ∧
    65000 ≤ 65000 ∧ 100 ≤ 100 ∧ (runA 1 11999500).position ≤ 11999500 ∧
    0 < (moveRun ⟨12000, 0#11, 1⟩ ⟨3200, 2500, none⟩ ⟨950, 50, 20, 80, 600⟩ none (runA 1 11999500)).run.speed ∧
    (moveRun ⟨0, 0#11, 1⟩ ⟨3200, 2500, none⟩ ⟨950, 50, 20, 80, 600⟩ none (runA 1 11999500)).run.speed = 0 := by decide +kernel

/-- A lone run with a live meter. -/
def flowingAt (pos : Nat) : State := flowing 4 12000 60 (flowing 1 12000 60 (withRun (runA 1 pos) (on mapA .monitor)))

/-- Where the advance of a lone run takes it. -/
def advancedTo (pos : Nat) : Nat :=
  (moveRun (flowTaken ((ageFlows (flowingAt pos)).flowFor pos)) ((flowingAt pos).stretchOf pos)
    ((flowingAt pos).classOf 2) none (runA 1 pos)).run.position

theorem witness_LoneRunAdvances :
    (flowingAt 98498908).powered = true ∧ SecondWork.wf inOrder = true ∧ (flowingAt 98498908).mgmt.mode = .monitor ∧
    (((flowingAt 98498908).setMode .guarded).mgmt.mode = .guarded ∧
      ∀ k, (((flowingAt 98498908).setMode .guarded).slot k).state = .idle) ∧
    (flowingAt 98498908).tables.pendingCommit = none ∧ (flowingAt 98498908).tracker.runs = [runA 1 98498908] ∧
    (runA 1 98498908).state ≠ .lost ∧ advancedTo 98498908 < endMm mapA ∧ endMm mapA ≤ advancedTo 98498909 ∧
    0 < advancedTo 98498908 - 98498908 ∧ (runA 1 98498908).misses ≤ 1 ∧
    mapA.Pairwise (fun a b => a.chainage < b.chainage) ∧ (on mapA .guarded).mgmt.mode ≠ .transparent := by decide +kernel

/-- A run that has stood for this many seconds. -/
def standing (halted : Nat) (st : RunState) : Run := { runA 1 20000000 with halted := halted, state := st }

/-- A run that is one second short of its stall limit stands in the table, without flow or with it. -/
def aboutToStall (flow : Bool) : State :=
  let s := withRun (standing 599 .halted) (on mapA .monitor)
  if flow then flowing 1 12000 60 s else s

/-- Where the advance now due takes that run. -/
def standsAt (flow : Bool) : Nat :=
  (moveRun (flowTaken ((ageFlows (aboutToStall flow)).flowFor 20000000)) ((aboutToStall flow).stretchOf 20000000)
    ((aboutToStall flow).classOf 2) none (standing 599 .halted)).run.speed

theorem witness_StandingRunStalls :
    ((standing 599 .halted).speed = 0 ∧ (standing 599 .halted).state ≠ .stalled ∧ min 65535 (599 + 1) = 600) ∧
    ((standing 598 .halted).speed = 0 ∧ min 65535 (598 + 1) ≠ 600) ∧ (standing 65535 .stalled).state = .stalled ∧
    0 < ({ standing 5 .halted with speed := 1 } : Run).speed ∧
    ((on mapA .transparent).mgmt.mode = .transparent ∧ (on mapA .monitor).run 1 = none ∧
      (withRun (standing 600 .stalled) (on mapA .monitor)).run 1 = some (standing 600 .stalled)) ∧
    ((aboutToStall false).powered = true ∧ 1 ≤ (standing 599 .halted).id ∧ (standing 599 .halted).id ≤ 255 ∧
      (aboutToStall false).mgmt.mode ≠ .transparent ∧ (aboutToStall false).tracker.runs = [] ++ standing 599 .halted :: [] ∧
      ((aboutToStall false).tracker.runs.map Run.id).Nodup ∧ (standing 599 .halted).state = .halted ∧
      standsAt false = 0 ∧ min 65535 (599 + 1) = ((aboutToStall false).classOf 2).stallLimit ∧ standsAt true ≠ 0 ∧
      anStall &&& (aboutToStall false).mgmt.config.alarmMask ≠ 0#11) ∧
    anStall &&& 0#11 = 0#11 := by decide +kernel

/-- A hold-off and an expected order with this many seconds left, and a flow record of this age. -/
def counting (n : Nat) : State :=
  ((flowing 1 12000 n (on mapA .monitor)).updDetector 3 (fun d => { d with holdOff := n })).updValve 2
    (fun v => { v with expected := some ⟨.closed, n, .control⟩ })

theorem witness_CountdownsExpire :
    ((counting 1).powered = true ∧ 3 < 64 ∧ (counting 1).mgmt.mode ≠ .transparent ∧
      (on mapA .transparent).mgmt.mode = .transparent) ∧
    ((counting 1).scan.countdown = 0 ∧ ((counting 1).setScanCountdown 2).scan.countdown = 2 ∧
      ((counting 1).setScanCountdown 1).scan.countdown = 1 ∧ ((counting 1).interlock.valves.map ValveRec.point).Nodup) ∧
    ((counting 1).flow 1 = some ⟨1, 12000, .live, false, 1⟩ ∧ 1 ≤ 1 ∧ (counting 2).flow 1 = some ⟨1, 12000, .live, false, 2⟩ ∧
      1 < 2 ∧ (FlowRec.initial 1).state ≠ .live) ∧
    ((counting 1).detector 3 = some ⟨3, 1, 0, true⟩ ∧ (counting 2).detector 3 = some ⟨3, 2, 0, true⟩) ∧
    (((counting 1).valve 2).bind ValveRec.expected = some ⟨.closed, 1, .control⟩ ∧
      ((counting 2).valve 2).bind ValveRec.expected = some ⟨.closed, 2, .control⟩) := by decide +kernel

/-- Every node but these was heard; these have missed two rounds. -/
def silentSoon (ns : List Nat) : State :=
  let s := (on mapA .monitor).setNodes ((on mapA .monitor).scan.nodes.map (fun r =>
    if ns.contains r.node then { r with missed := 2 } else { r with heard := true }))
  s.setScanCountdown 1

theorem recordsFollow_silentSoon : ∀ ns ∈ ([[], [14], [13, 14]] : List (List Nat)), (silentSoon ns).RecordsFollowMap := by
  unfold State.RecordsFollowMap; decide +kernel

theorem witness_RoundCountsMisses :
    (∀ ns ∈ ([[], [14], [13, 14]] : List (List Nat)),
      (silentSoon ns).powered = true ∧ (silentSoon ns).mgmt.mode ≠ .transparent ∧ (silentSoon ns).scan.countdown = 1 ∧
      (silentSoon ns).scan.nodes.map (fun r => !r.heard && !r.silent && decide (2 ≤ r.missed)) =
        (silentSoon ns).scan.nodes.map (fun r => ns.contains r.node)) ∧
    (3 ∈ pointsOfNode mapA 14 Point.isDetector ∧ 2 ∈ pointsOfNode mapA 13 Point.isValve ∧
      ((silentSoon [13, 14]).updValve 2 (fun v => { v with state := .opened, location := .remote })).valve 2 =
        some { ValveRec.initial 2 with state := .opened, location := .remote }) ∧
    ∀ ns ∈ ([[], [14], [13, 14]] : List (List Nat)), (silentSoon ns).RecordsFollowMap :=
  ⟨by decide +kernel, by decide +kernel, recordsFollow_silentSoon⟩

/-! ### Witnesses: passages, valves and orders -/

theorem witness_SlipMovesAQuarter : (runA 1 0).flowDist = 0 ∧ 0 < ({ runA 1 0 with flowDist := 1 } : Run).flowDist ∧
    500 ≤ (runA 1 0).slip ∧ (runA 1 0).slip ≤ 1000 := by decide

theorem witness_ReverseAndDuplicatePassages :
    (counting 1).detector 3 = some ⟨3, 1, 0, true⟩ ∧ byteAt [0#8, 1#8, 1#8] 2 = 1 ∧ byteAt [0#8, 1#8, 0#8] 2 ≠ 1 ∧ 0 < 1 := by
  decide +kernel

/-- The train of Table 3-9 with a run of each outcome at the detector of point 3. -/
def train (rs : List Run) : State := (on mapA .monitor).setRuns rs

/-- Slot 1 awaits a passage at point 3, holding run 1 or none; slot 3 does without one. -/
def awaiting (holds : Bool) : State :=
  let at3 := fun (b : Option Nat) (r : Slot) => { r with state := .running, program := some 0, step := some 2, bound := b }
  slotWith 3 (at3 none) (slotWith 1 (at3 (if holds then some 1 else none))
    (withRun { runA 1 2690000 with bound := if holds then some 1 else none } (on mapB .guarded)))

theorem witness_PassageFixesTheForemostCandidate :
    ((train [runA 1 25990000, runA 2 25400000]).tracker.runs.map Run.id).Nodup ∧
    (∀ r ∈ (train []).tracker.runs, chainMm mapA 3 ≤ chainMm mapA r.lastFix) ∧
    ((train [runA 1 25990000, runA 2 25400000]).tracker.runs = [] ++ runA 1 25990000 :: [runA 2 25400000] ∧
      chainMm mapA (runA 1 25990000).lastFix < chainMm mapA 3 ∧ (runA 1 25990000).state ≠ .lost) ∧
    (26000000 - 25879999 = 120001 ∧ 2 * (runA 1 25879999).band < 120001) ∧
    (26000000 - 25880000 ≤ 2 * (runA 1 25880000).band ∧
      chainMm mapA 3 < chainMm mapA ({ runA 2 25800000 with lastFix := 4 } : Run).lastFix ∧
      ∀ x ∈ [runA 2 25400000], chainMm mapA x.lastFix ≤ chainMm mapA 3) ∧
    ({ runA 1 20000000 with state := .lost } : Run).state = .lost ∧
    ((counting 0).detector 3 = some ⟨3, 0, 0, true⟩ ∧ byteAt [0#8, 1#8, 0#8] 2 ≠ 1 ∧
      detectorPart (counting 0).map 3 = some (0, 30)) ∧
    ((awaiting true).run 1 = some { runA 1 2690000 with bound := some 1 } ∧ ((awaiting true).slot 1).state = .running ∧
      ((awaiting true).slot 1).step.bind (awaiting true).stepAt = some ⟨.awaitPassage, some 3, 0, 3600, true⟩ ∧
      ((slotWith 1 (fun r => { r with state := .observe }) (awaiting true)).slot 1).state ≠ .running) ∧
    ((awaiting false).run 1 = some (runA 1 2690000) ∧ (runA 1 2690000).bound = none ∧ ((awaiting false).slot 1).bound = none ∧
      ((awaiting false).slot 0).state ≠ .running ∧ ((awaiting false).slot 3).bound = none ∧
      ∀ k, ((on mapB .guarded).slot k).state ≠ .running) := by decide +kernel

/-- Slot 1 stands at a step with its order in this state; it reserves valve 1, which stands so under this control. -/
def atValve (i : Nat) (o : StepOrder) (st : ValveState) (l : Location) : State :=
  (slotWith 1 (fun r => { r with state := .running, program := some 0, step := some i, order := o })
    (on mapB .guarded)).updValve 1 (fun v => { v with state := st, location := l, reserving := some 1 })

theorem witness_ValveReportUpdatesTheRecord :
    ((counting 5).valve 2 = some { ValveRec.initial 2 with expected := some ⟨.closed, 5, .control⟩ } ∧
      ValveState.ofReport (byteAt [2#8, 0#8, 0#8, 1#8] 0) = .closed ∧ (on mapA .monitor).valve 2 = some (ValveRec.initial 2) ∧
      ValveState.ofReport (byteAt [4#8, 95#8, 0#8, 1#8] 0) = .closing) ∧
    (∀ x ∈ ([(0, .delivered, .opened), (3, .delivered, .closed), (18, .none, .opened), (19, .none, .closed)]
        : List (Nat × StepOrder × ValveState)), ∀ l ∈ ([.remote, .localControl] : List Location),
      let s := atValve x.1 x.2.1 x.2.2 l
      (s.valve 1).map ValveRec.state = some x.2.2 ∧ (s.valve 1).map ValveRec.location = some l ∧
        (s.valve 1).bind ValveRec.reserving = some 1 ∧ (s.slot 1).state = .running ∧ (s.slot 1).order = x.2.1 ∧
        ((s.slot 1).step.bind s.stepAt).bind StepRec.operand = some 1 ∧ ∀ j, j ≠ 1 → (s.slot j).state ≠ .running) ∧
    (((atValve 0 .delivered .opening .remote).valve 1).map ValveRec.state = some .opening ∧
      (slotWith 1 (fun r => { r with state := .spacing }) (atValve 0 .none .opened .localControl)).slot 1 ≠ Slot.initial) := by
  decide +kernel

/-- An order with this action to this node. -/
def orderTo (dest action : Nat) : Frame := mkFrame dest 1 17 0#8 [byte action, 5#8]

theorem witness_ControlOrderCheck :
    byteAt (framePayload (orderTo 13 4)) 0 = 4 ∧
    (frameDest (orderTo 127 2) = 127 ∧ byteAt (framePayload (orderTo 127 2)) 0 = 2) ∧
    (frameDest (orderTo 127 1) = 127 ∧ byteAt (framePayload (orderTo 127 3)) 0 = 3) ∧
    (frameDest (orderTo 126 2) ≠ 127 ∧ valveOfNode occupied.map (frameDest (orderTo 126 2)) = none) ∧
    (valveOfNode occupied.map (frameDest (orderTo 13 2)) = some 2 ∧
      valvePart occupied.map 2 = some ⟨.mainline, 2000, 200, 120, none⟩) ∧
    byteAt (framePayload (orderTo 13 3)) 0 = 3 ∧ (reservedBy2.valve 2).bind ValveRec.reserving = some 2 ∧
    ((occupied.valve 2).bind ValveRec.reserving = none ∧ byteAt (framePayload (orderTo 13 1)) 0 = 1) ∧
    (∀ r ∈ (on mapA .guarded).tracker.runs, False) ∧
    (occupied.tracker.runs = [] ++ runA 1 12000000 :: [] ∧ chainMm occupied.map 2 - 2000 * 1000 ≤ 12000000 ∧
      12000000 ≤ chainMm occupied.map 2 + 200 * 1000) := by decide +kernel

/-! ### Witnesses: sequences -/

/-- Slot 0 runs the launch program; slot 1 holds a run and runs the receive program. -/
def sequencing : State :=
  slotWith 1 (fun r => { r with state := .running, program := some 1, cls := 2, bound := some 1 })
    (slotWith 0 (fun r => { r with state := .running, program := some 0, cls := 1 })
      (withRun { runA 1 7099999 with bound := some 1 } (on mapB .guarded)))

/-- Slot 1 without a run, run 1 unbound. -/
def unboundAt (pos : Nat) : State :=
  slotWith 1 (fun r => { r with state := .running, program := some 1 }) (withRun (runA 1 pos) (on mapB .guarded))

theorem witness_StepsStart :
    (sequencing.stepAt 0 = some ⟨.openValve, some 1, 0, 120, false⟩ ∧ sequencing.order 0 = none ∧
      (sequencing.map[1]?).bind Point.node = some 21 ∧ sequencing.lines.nodeNumber = some 2 ∧
      (placed sequencing).order 1 ≠ none) ∧
    sequencing.stepAt 2 = some ⟨.awaitPassage, some 3, 0, 3600, true⟩ ∧
    (sequencing.stepAt 12 = some ⟨.dwell, none, 600, 0, false⟩ ∧ 0 < 600) ∧
    (sequencing.stepAt 20 = some ⟨.dwell, none, 0, 0, false⟩ ∧
      sequencing.stepAt (20 + 1) = some ⟨.awaitPassage, some 3, 0, 0, false⟩) ∧
    (sequencing.stepAt 18 = some ⟨.verifyOpen, some 1, 0, 7, false⟩ ∧ sequencing.believed 1 .opened = false) ∧
    (sequencing.stepAt 19 = some ⟨.verifyClosed, some 1, 0, 7, false⟩ ∧ sequencing.believed 1 .closed = false) ∧
    (sequencing.stepAt 22 = some ⟨.verifyOpen, some 1, 0, 7, false⟩ ∧
      sequencing.stepAt (22 + 1) = some ⟨.openValve, some 1, 0, 120, false⟩ ∧
      (valveStands .opened sequencing).believed 1 .opened = true) ∧
    (sequencing.stepAt 10 = some ⟨.awaitApproach, some 6, 1000, 0, false⟩ ∧
      sequencing.stepAt (10 + 1) = some ⟨.openValve, some 5, 0, 120, false⟩ ∧ (sequencing.slot 1).bound = some 1 ∧
      (sequencing.run 1).map Run.position = some 7099999 ∧ 7099999 < chainMm sequencing.map 6 - 1000 * 1000 ∧
      ((sequencing.updRun 1 (fun r => { r with position := 7100000 })).run 1).map Run.position = some 7100000 ∧
      chainMm sequencing.map 6 - 1000 * 1000 ≤ 7100000) ∧
    (((unboundAt 7100000).slot 1).bound = none ∧
      (unboundAt 7100000).tracker.runs.find? (fun x => decide (x.position < chainMm mapB 6) && x.bound.isNone) =
        some (runA 1 7100000) ∧
      (unboundAt 7099999).tracker.runs.find? (fun x => decide (x.position < chainMm mapB 6) && x.bound.isNone) =
        some (runA 1 7099999) ∧
      (unboundAt 8100000).tracker.runs.find? (fun x => decide (x.position < chainMm mapB 6) && x.bound.isNone) = none) := by
  decide +kernel

/-- Slot 0 stands at a step, its countdown about to reach 0. -/
def dueAt (i : Nat) (st : SlotState) (requested : Bool) : State :=
  slotWith 0 (fun r => { r with state := st, step := some i, countdown := 1, endRequested := requested }) sequencing

/-- Slot 1 at its approach step, alone among the slots, with this countdown and run 1 bound to it or not. -/
def approaching (n : Nat) (holds : Bool) (pos : Nat) : State :=
  slotWith 1 (fun r => { r with
      state := .running, program := some 1, step := some 10, countdown := n, bound := if holds then some 1 else none })
    (withRun { runA 1 pos with bound := if holds then some 1 else none } (on mapB .guarded))
/-- Slot 0 at a step, alone among the slots, with this countdown. -/
def aloneAt (i n : Nat) (st : SlotState) : State :=
  slotWith 0 (fun r => { r with state := st, program := some 0, step := some i, countdown := n }) (on mapB .guarded)

theorem witness_SlotCountdownsEnd :
    ((on mapB .monitor).mgmt.mode ≠ .guarded ∧ ∀ k, ((on mapB .guarded).slot k).state = .idle) ∧
    (∀ n ∈ ([0, 1, 2] : List Nat), ∀ st ∈ ([.running, .spacing] : List SlotState),
      (aloneAt 2 n st).powered = true ∧ (aloneAt 2 n st).mgmt.mode = .guarded ∧ ((aloneAt 2 n st).slot 0).countdown = n ∧
        ((aloneAt 2 n st).slot 0).state = st ∧ ∀ j, j ≠ 0 → ((aloneAt 2 n st).slot j).state = .idle) ∧
    (((approaching 1 true 7100000).slot 1).bound = some 1 ∧ ((approaching 1 false 7100000).slot 1).bound = none ∧
      ((approaching 1 true 7100000).slot 1).step = some 10 ∧
      (approaching 1 true 7100000).stepAt 10 = some ⟨.awaitApproach, some 6, 1000, 0, false⟩ ∧
      ((approaching 1 true 7100000).run 1).map Run.position = some 7100000 ∧ chainMm mapB 6 - 1000 * 1000 ≤ 7100000 ∧
      ¬ (chainMm mapB 6 - 1000 * 1000 ≤ 7099999) ∧
      (approaching 1 false 7100000).tracker.runs.find? (fun x => decide (x.position < chainMm mapB 6) && x.bound.isNone) =
        some (runA 1 7100000)) ∧
    ((dueAt 12 .running false).powered = true ∧ (dueAt 12 .running false).mgmt.mode = .guarded ∧
      ((dueAt 12 .running false).slot 0).countdown = 1 ∧ ((dueAt 12 .running false).slot 0).state = .running ∧
      ((dueAt 12 .running false).slot 0).step = some 12 ∧
      (dueAt 12 .running false).stepAt 12 = some ⟨.dwell, none, 600, 0, false⟩) ∧
    ((dueAt 2 .running false).stepAt 2 = some ⟨.awaitPassage, some 3, 0, 3600, true⟩ ∧
      ((dueAt 2 .running false).slot 0).step = some 2) ∧
    (dueAt 0 .running false).stepAt 0 = some ⟨.openValve, some 1, 0, 120, false⟩ ∧
    (((dueAt 4 .spacing false).slot 0).state = .spacing ∧ ((dueAt 4 .spacing false).slot 0).endRequested = false) ∧
    ((dueAt 4 .spacing true).slot 0).endRequested = true := by decide +kernel

/-- Slot 0 comes to its END step with this record. -/
def ending (f : Slot → Slot) : State := slotWith 0 f sequencing

theorem witness_EndStepDecides :
    (sequencing.stepAt 4 = some ⟨.endCycle, none, 0, 0, false⟩ ∧ (sequencing.slot 0).bound = none ∧
      (sequencing.slot 0).state = .running ∧ (sequencing.slot 1).state = .running ∧ (sequencing.slot 1).bound = some 1) ∧
    ((ending (fun r => { r with endRequested := true })).slot 0).endRequested = true ∧
    (((ending (fun r => { r with count := 0, autoRepeat := true })).slot 0).count = 0 ∧
      ((ending (fun r => { r with count := 0, autoRepeat := true })).slot 0).autoRepeat = true) ∧
    (((ending (fun r => { r with count := 0 })).slot 0).autoRepeat = false ∧
      ((ending (fun r => { r with count := 0 })).slot 0).chain = none) ∧
    (((ending (fun r => { r with count := 0, chain := some ⟨1, .single, 1, 1⟩ })).slot 0).chain = some ⟨1, .single, 1, 1⟩ ∧
      0 < (⟨1, .single, 1, 1⟩ : Chain).spacing ∧ (⟨1, .single, 1, 0⟩ : Chain).spacing = 0) ∧
    (sequencing.firstStepOf 0 = 0 ∧ sequencing.stepAt 0 = some ⟨.openValve, some 1, 0, 120, false⟩) ∧
    (0 < (sequencing.slot 0).count ∧ (sequencing.slot 0).mode = .single ∧ (sequencing.slot 0).endRequested = false) ∧
    (((ending (fun r => { r with mode := .train, spacing := 1 })).slot 0).mode = .train ∧
      0 < ((ending (fun r => { r with mode := .train, spacing := 1 })).slot 0).spacing ∧
      ((ending (fun r => { r with mode := .train })).slot 0).spacing = 0) ∧
    (((ending (fun r => { r with mode := .permissive, permit := true, spacing := 1 })).slot 0).permit = true ∧
      ((ending (fun r => { r with mode := .permissive })).slot 0).permit = false) := by decide +kernel

/-- The run table is full. -/
def crowded : State :=
  let s := slotWith 0 (fun r => { r with state := .running, program := some 0, cls := 1 }) (on mapB .guarded)
  { s with tracker := { s.tracker with
      runs := (List.range 16).map (fun i => runA (i + 1) 5000000), lastId := 16, inserted := 16#32 } }

theorem sequencing_counted : sequencing.RunsCounted := by unfold State.RunsCounted; decide +kernel
theorem crowded_counted : crowded.RunsCounted := by unfold State.RunsCounted; decide +kernel
theorem sequencing_mirrored : sequencing.BindingsMirrored := by
  refine ⟨sequencing_counted, ?_, by decide +kernel, by decide +kernel⟩
  intro k id h
  have : ∀ k, (sequencing.slot k).bound = none ∨ (k = 1 ∧ (sequencing.slot k).bound = some 1) := by decide +kernel
  rcases this k with hk | ⟨rfl, hk⟩
  · rw [hk] at h; cases h
  · rw [hk] at h; cases h; decide +kernel
theorem crowded_mirrored : crowded.BindingsMirrored := by
  refine ⟨crowded_counted, ?_, by decide +kernel, by decide +kernel⟩
  intro k id h
  have : ∀ k, (crowded.slot k).bound = none := by decide +kernel
  rw [this k] at h; cases h

theorem witness_RunStepsInsertAndRemove :
    (sequencing.RunsCounted ∧ sequencing.BindingsMirrored ∧ crowded.RunsCounted ∧ crowded.BindingsMirrored) ∧
    (sequencing.stepAt 1 = some ⟨.insertRun, none, 0, 0, false⟩ ∧
      sequencing.stepAt (1 + 1) = some ⟨.awaitPassage, some 3, 0, 3600, true⟩ ∧ (sequencing.slot 0).state = .running ∧
      (sequencing.slot 0).bound = none ∧ (sequencing.slot 1).bound = some 1 ∧ sequencing.tracker.runs.length < 16) ∧
    ((crowded.slot 0).state = .running ∧ 16 ≤ crowded.tracker.runs.length) ∧
    (sequencing.stepAt 16 = some ⟨.removeRun, none, 0, 0, false⟩ ∧
      sequencing.stepAt (16 + 1) = some ⟨.awaitPassage, some 3, 0, 0, false⟩ ∧ (sequencing.slot 1).state = .running ∧
      (sequencing.slot 1).bound = some 1 ∧ sequencing.run 1 = some { runA 1 7099999 with bound := some 1 } ∧
      (sequencing.slot 0).state = .running ∧ (sequencing.slot 0).bound = none) :=
  ⟨⟨sequencing_counted, sequencing_mirrored, crowded_counted, crowded_mirrored⟩, by decide +kernel, by decide +kernel,
    by decide +kernel⟩

/-! ### Witnesses: requests -/

/-- The request is about to be served, in a state with this property. -/
def ready (code : Nat) (args : List Byte) (s : State) (P : State → Bool) : Bool :=
  (asked code args s).serving (request code args) code args && P (asked code args s)

/-- Nothing else is asked of the state. -/
def always (_ : State) : Bool := true

theorem witness_RequestsAreServedInTurn :
    (ready 1 [0#8] State.reset always = true ∧ [0#8].length ≠ 0) ∧
    ((request 1 []).code ≠ some 47 ∧ (request 1 []).code ≠ some 2) ∧
    ((asked 47 [0#8] (answersFull State.reset)).powered = true ∧
      (asked 47 [0#8] (answersFull State.reset)).mgmt.service = some ⟨request 47 [0#8], .unserved⟩ ∧
      (request 47 [0#8]).payload ≠ [6#8] ∧ (asked 47 [0#8] (answersFull State.reset)).freePlaces = 0) ∧
    (ready 10 (List.replicate 7 0#8) State.reset always = true ∧ (List.replicate 7 0#8).length < 8) ∧
    (ready 10 (0#8 :: 4#8 :: List.replicate 14 0#8) State.reset always = true ∧ pointArgLength 4 = some 15 ∧
      (0#8 :: 4#8 :: List.replicate 14 0#8).length ≠ 15) ∧
    (State.reset.powered = true ∧ State.reset.listening .a = true ∧ frameBad (mkFrame 2 1 64 7#8 [8#8]) = false ∧
      0 < State.reset.freePlaces ∧ State.reset.lines.nodeNumber = some 2 ∧ State.reset.mgmt.config.managerNode = 0 ∧
      State.reset.mgmt.service = none ∧ State.reset.mgmt.waiting = none ∧ 8 ∉ requestCodes) := by decide +kernel

theorem witness_StatusConfigurationAndRestart :
    ready 1 [] sequencing always = true ∧
    (∀ x ∈ ([(1, 0, 126), (1, 0, 127), (2, 0, 126), (2, 0, 127), (3, 31, 255), (3, 32, 0), (4, 7, 255), (4, 8, 0), (5, 0, 1),
        (5, 0, 2), (6, 0, 1), (6, 0, 2), (7, 0, 1), (7, 0, 2), (8, 0, 4), (8, 0, 5), (8, 2, 88), (8, 2, 89), (9, 0, 0),
        (9, 0, 3), (9, 0, 4), (10, 0, 1), (10, 0, 2), (0, 0, 0), (11, 0, 0)] : List (Nat × Nat × Nat)),
      ready 3 [byte x.1, byte x.2.1, byte x.2.2] State.reset always = true) ∧
    LogMode.mixed = State.reset.mgmt.config.logMode ∧ LogMode.off ≠ State.reset.mgmt.config.logMode ∧
    ready 7 [] State.reset always = true := by decide +kernel

theorem witness_ClockIsSetAndConditionsAcknowledged :
    ready 4 [255#8, 255#8, 255#8, 255#8] State.reset always = true ∧
    (ready 4 [0#8, 0#8, 0#8] State.reset always = true ∧ [0#8, 0#8, 0#8].length ≠ 4) ∧
    (ready 5 [31#8, 255#8] linkWasCleared always = true ∧ 31 * 256 + 255 ≤ 8191) ∧
    (ready 5 [32#8, 0#8] linkWasCleared always = true ∧ 8191 < 32 * 256 + 0) := by decide +kernel

/-- Both tables that MONITOR needs are in use. -/
def tablesInUse (s : State) : Bool := s.map != [] && s.tables.active.classes.any Option.isSome
/-- Every slot is IDLE. -/
def slotsIdle (s : State) : Bool := slotIds.all (fun k => (s.slot k).state == .idle)
/-- The controller is in this mode. -/
def inMode (m : Mode) (s : State) : Bool := s.mgmt.mode == m

theorem witness_ModeChanges :
    ready 2 [3#8] State.reset always = true ∧
    ready 2 [2#8] sequencing (inMode .guarded) = true ∧
    (ready 2 [1#8] State.reset (fun s => !tablesInUse s) = true ∧ ready 2 [2#8] State.reset (fun s => !tablesInUse s) = true) ∧
    (ready 2 [1#8] (on mapB .transparent) (fun s => inMode .transparent s && tablesInUse s) = true ∧
      ready 2 [2#8] (on mapB .transparent) (fun s => inMode .transparent s && tablesInUse s) = true) ∧
    ready 2 [2#8] (on mapB .monitor) (fun s => inMode .monitor s && tablesInUse s) = true ∧
    ready 2 [1#8] sequencing (fun s => inMode .guarded s && tablesInUse s && !slotsIdle s) = true ∧
    (ready 2 [0#8] sequencing (fun s => inMode .guarded s && !slotsIdle s) = true ∧
      ready 2 [0#8] occupied slotsIdle = true) := by decide +kernel

/-- The controller with a COMMIT of a table pending. -/
def pendingOf (t : TableId) (s : State) : State := { s with tables := { s.tables with pendingCommit := some t } }
/-- A COMMIT of this table is pending. -/
def isPending (t : TableId) (s : State) : Bool := s.tables.pendingCommit == some t
/-- The shadow map holds this many points. -/
def shadowPoints (n : Nat) (s : State) : Bool := s.tables.shadow.lineMap.length == n
/-- The controller with this shadow map. -/
def shadowing (m : List Point) : State := State.reset.setShadow { Tables.empty with lineMap := m }

/-- Layouts in range at the limits of Tables 1-1 and 1-2, of every kind; the END point's node byte is 126. -/
def pointsInRange : List (List Nat) :=
  [[1, 0, 6, 26, 128, 0, 1, 0, 100, 0, 100, 63, 1], [1, 0, 0, 0, 0, 126, 1, 78, 32, 31, 64, 255, 3],
    [2, 0, 0, 0, 9, 1, 0, 0, 100, 0, 100, 0, 1, 19, 136, 1, 244, 0, 5, 63],
    [2, 0, 0, 0, 9, 126, 0, 0, 100, 0, 100, 0, 5, 0, 0, 0, 0, 3, 132, 255],
    [3, 0, 0, 0, 9, 1, 0, 0, 100, 0, 100, 0, 0, 0, 0], [3, 0, 0, 0, 9, 1, 1, 0, 100, 0, 100, 0, 3, 2, 88],
    [4, 0, 0, 0, 9, 1, 0, 0, 100, 0, 100, 0, 2, 88], [5, 0, 6, 26, 128, 0, 0], [5, 0, 6, 26, 128, 126, 1]]
/-- Layouts one step outside each of the limits. -/
def pointsOutOfRange : List (List Nat) :=
  [[0, 0, 0, 0, 0, 0, 0], [6, 0, 0, 0, 0, 0, 0], [5, 0, 6, 26, 129, 0, 0], [5, 0, 0, 0, 0, 127, 0], [5, 0, 0, 0, 0, 0, 2],
    [4, 0, 0, 0, 9, 0, 0, 0, 100, 0, 100, 0, 2, 88], [1, 0, 0, 0, 9, 1, 0, 0, 99, 0, 100, 0, 1],
    [1, 0, 0, 0, 9, 1, 0, 78, 33, 0, 100, 0, 1], [1, 0, 0, 0, 9, 1, 0, 0, 100, 0, 99, 0, 1],
    [1, 0, 0, 0, 9, 1, 0, 0, 100, 31, 65, 0, 1], [1, 0, 0, 0, 9, 1, 0, 0, 100, 0, 100, 64, 1],
    [1, 0, 0, 0, 9, 1, 0, 0, 100, 0, 100, 0, 0], [1, 0, 0, 0, 9, 1, 0, 0, 100, 0, 100, 0, 4],
    [2, 0, 0, 0, 9, 1, 0, 0, 100, 0, 100, 0, 6, 0, 0, 0, 0, 0, 5, 255],
    [2, 0, 0, 0, 9, 1, 0, 0, 100, 0, 100, 0, 1, 19, 137, 0, 0, 0, 5, 255],
    [2, 0, 0, 0, 9, 1, 0, 0, 100, 0, 100, 0, 1, 0, 0, 1, 245, 0, 5, 255],
    [2, 0, 0, 0, 9, 1, 0, 0, 100, 0, 100, 0, 1, 0, 0, 0, 0, 0, 4, 255],
    [2, 0, 0, 0, 9, 1, 0, 0, 100, 0, 100, 0, 1, 0, 0, 0, 0, 3, 133, 255],
    [2, 0, 0, 0, 9, 1, 0, 0, 100, 0, 100, 0, 1, 0, 0, 0, 0, 0, 5, 64],
    [3, 0, 0, 0, 9, 1, 0, 0, 100, 0, 100, 0, 4, 0, 0], [3, 0, 0, 0, 9, 1, 0, 0, 100, 0, 100, 0, 0, 2, 89],
    [4, 0, 0, 0, 9, 1, 0, 0, 100, 0, 100, 0, 2, 89]]

theorem witness_LoadsFillTheShadow :
    ((∀ l ∈ pointsInRange, 7 ≤ l.length ∧ pointArgLength (l.getD 0 0) = some (l.length + 1) ∧
        (parsePoint (l.map byte)).isSome = true ∧
        ready 10 (0#8 :: l.map byte) (pendingOf .lineMap State.reset) (isPending .lineMap) = true ∧
        ready 10 (64#8 :: l.map byte) State.reset (fun s => !isPending .lineMap s) = true ∧
        ready 10 (1#8 :: l.map byte) State.reset (shadowPoints 0) = true ∧
        ready 10 (0#8 :: l.map byte) (shadowing mapB) (shadowPoints 8) = true ∧
        ready 10 (8#8 :: l.map byte) (shadowing mapB) (shadowPoints 8) = true) ∧
      (∀ l ∈ pointsOutOfRange, 7 ≤ l.length ∧ (pointArgLength (l.getD 0 0)).getD 8 = l.length + 1 ∧
        parsePoint (l.map byte) = none ∧ ready 10 (8#8 :: l.map byte) (shadowing mapB) (shadowPoints 8) = true)) ∧
    (∀ x ∈ ([[7, 1, 244, 0, 1, 200, 78, 32, 0, 30], [8, 3, 232, 0, 1, 0, 0, 1, 0, 30], [0, 1, 243, 0, 1, 0, 0, 1, 0, 30],
        [0, 3, 233, 0, 1, 0, 0, 1, 0, 30], [0, 3, 232, 7, 209, 0, 7, 209, 0, 30], [0, 3, 232, 0, 2, 0, 0, 1, 0, 30],
        [0, 3, 232, 0, 1, 201, 0, 1, 0, 30], [0, 3, 232, 0, 1, 0, 78, 33, 0, 30], [0, 3, 232, 0, 1, 0, 0, 1, 0, 29]]
        : List (List Nat)), ready 11 (x.map byte) State.reset (fun s => !isPending .classes s) = true) ∧
    ready 11 (List.replicate 10 0#8) (pendingOf .classes State.reset) (isPending .classes) = true ∧
    (∀ x ∈ ([[15, 2, 63, 127, 32], [0, 1, 0, 0, 1], [16, 1, 0, 0, 1], [0, 0, 0, 0, 1], [0, 3, 0, 0, 1], [0, 1, 64, 0, 1],
        [0, 1, 0, 128, 1], [0, 1, 0, 0, 0], [0, 1, 0, 0, 33]] : List (List Nat)),
      ready 12 (x.map byte) State.reset (fun s => !isPending .sequence s) = true) ∧
    ready 12 (List.replicate 5 0#8) (pendingOf .sequence State.reset) (isPending .sequence) = true ∧
    (∀ x ∈ ([[127, 5, 255, 28, 32, 28, 32, 1], [0, 8, 63, 195, 80, 0, 0, 0], [0, 0, 0, 0, 0, 0, 0, 0], [0, 11, 0, 0, 0, 0, 0, 0],
        [128, 1, 0, 0, 0, 0, 0, 0], [0, 1, 64, 0, 0, 0, 0, 0], [0, 1, 0, 0, 0, 28, 33, 0], [0, 1, 0, 0, 0, 0, 0, 2],
        [0, 5, 255, 28, 33, 0, 0, 0], [0, 8, 63, 195, 81, 0, 0, 0]] : List (List Nat)),
      ready 13 (x.map byte) State.reset (fun s => !isPending .sequence s) = true) ∧
    (Action.dwell.code = 5 ∧ Action.awaitApproach.code = 8 ∧ Action.openValve.code = 1) ∧
    ready 13 (List.replicate 8 0#8) (pendingOf .sequence State.reset) (isPending .sequence) = true ∧
    (∀ x ∈ ([[7, 1, 127, 127, 1, 0, 2, 1], [0, 0, 0, 0, 0, 255, 0, 0], [8, 0, 0, 0, 0, 0, 0, 0], [0, 2, 0, 0, 0, 0, 0, 0],
        [0, 0, 128, 0, 0, 0, 0, 0], [0, 0, 0, 128, 0, 0, 0, 0], [0, 0, 0, 0, 1, 1, 0, 0], [0, 0, 0, 0, 0, 0, 3, 0],
        [0, 0, 0, 0, 0, 0, 0, 2]] : List (List Nat)), ready 45 (x.map byte) State.reset always = true) ∧
    (WatchDir.up.code = 1 ∧ WatchDir.down.code = 0 ∧ WatchDir.either.code = 2) := by decide +kernel

theorem witness_ClearShadowEmptiesOneCopy :
    ready 14 [3#8] State.reset always = true ∧
    (∀ t ∈ ([.lineMap, .classes, .sequence] : List TableId),
      ready 14 [byte t.code] (pendingOf t State.reset) (isPending t) = true ∧ (byte t.code).toNat = t.code ∧
      ready 14 [byte t.code] (shadowing mapB) (fun s => !isPending t s) = true) := by decide +kernel

/-- The run table is empty. -/
def noRuns (s : State) : Bool := s.tracker.runs.isEmpty

/-- The section of Table 11-1: eight points, the supervised nodes 21 to 25. -/
theorem test_line_map_counts : readCounts 0 (on mapB .guarded) false = [8#8, 5#8] ∧
    readCounts 0 (on mapB .guarded) true = [0#8, 0#8] := by
  decide +kernel

theorem witness_CommitIsTakenAndTablesAreRead :
    ready 15 [3#8] State.reset always = true ∧
    (∀ t ∈ ([.lineMap, .classes, .sequence] : List TableId),
      ready 15 [byte t.code] (pendingOf t State.reset) (isPending t) = true) ∧
    ready 15 [0#8] occupied (fun s => !isPending .lineMap s && !noRuns s) = true ∧
    ready 15 [0#8] twoOrders (fun s => !isPending .lineMap s && noRuns s && !slotsIdle s) = true ∧
    ready 15 [0#8] (shadowing mapB) (fun s => !isPending .lineMap s && noRuns s && slotsIdle s) = true ∧
    ready 15 [1#8] sequencing (fun s => !isPending .classes s) = true ∧
    ready 15 [2#8] sequencing (fun s => !isPending .sequence s && !slotsIdle s) = true ∧
    ready 15 [2#8] occupied (fun s => !isPending .sequence s && slotsIdle s) = true ∧
    (∀ x ∈ ([[5, 0, 0], [0, 0, 2], [0, 64, 0], [1, 8, 0], [2, 16, 0], [3, 8, 0], [4, 128, 1]] : List (List Nat)),
      ready 16 (x.map byte) (on mapB .guarded) always = true) ∧
    (∀ x ∈ ([[0, 7, 0], [0, 8, 0], [0, 63, 1], [1, 1, 0], [1, 7, 0], [2, 1, 0], [2, 15, 0], [3, 7, 0], [4, 15, 0],
        [4, 127, 1]] : List (List Nat)), ready 16 (x.map byte) (on mapB .guarded) always = true) ∧
    ((on mapB .guarded).map.length = 8 ∧ ((on mapB .guarded).tables.active.classes.getD 7 none).isNone = true ∧
      ((on mapB .guarded).tables.active.classes.getD 1 none).isSome = true) := by decide +kernel

/-- The class is defined and the point is a TRAP or DETECTOR point. -/
def adoptable (c p : Nat) (s : State) : Bool :=
  (s.classAt c).isSome && (s.map[p]?).any (fun x => x.isTrap || x.isDetector)
/-- The run table holds this many runs. -/
def runsAre (n : Nat) (s : State) : Bool := s.tracker.runs.length == n

theorem asked_counted (code : Nat) (args : List Byte) {s : State} (h : s.RunsCounted) : (asked code args s).RunsCounted := h

theorem witness_RunsByRequest :
    (asked 21 [1#8, 6#8] sequencing).RunsCounted ∧
    (ready 21 [1#8, 6#8] State.reset (inMode .transparent) = true ∧
      ready 21 [8#8, 63#8] sequencing (fun s => !inMode .transparent s) = true ∧
      ready 21 [7#8, 64#8] sequencing (fun s => !inMode .transparent s) = true ∧
      ready 21 [7#8, 0#8] sequencing (fun s => !inMode .transparent s && !adoptable 7 0 s) = true ∧
      ready 21 [1#8, 63#8] sequencing (fun s => !inMode .transparent s && !adoptable 1 63 s) = true ∧
      ready 21 [1#8, 0#8] crowded (fun s => !inMode .transparent s && adoptable 1 0 s && runsAre 16 s) = true ∧
      ready 21 [1#8, 6#8] sequencing (fun s => !inMode .transparent s && adoptable 1 6 s && runsAre 1 s) = true) ∧
    (ready 22 [0#8] sequencing always = true ∧ ready 22 [0#8] State.reset (inMode .transparent) = true ∧
      ready 22 [255#8] sequencing (fun s => !s.tracker.runs.any (fun y => y.id == 255))
        = true ∧
      ready 22 [1#8] sequencing (fun s => s.run 1 == some { runA 1 7099999 with bound := some 1 }) = true) ∧
    (ready 23 [0#8, 3#8] sequencing always = true ∧ ready 23 [1#8, 64#8] sequencing always = true ∧
      ready 23 [2#8, 63#8] sequencing (fun s => !s.tracker.runs.any (fun y => y.id == 2)) = true ∧
      ready 23 [1#8, 5#8] sequencing (fun s => s.tracker.runs == [] ++ { runA 1 7099999 with bound := some 1 } :: [] &&
        !(s.map[5]?).any Point.isDetector) = true ∧
      ready 23 [1#8, 3#8] (train [runA 1 25990000, runA 2 25400000])
        (fun s => s.tracker.runs == [] ++ runA 1 25990000 :: [runA 2 25400000] && (s.map[3]?).any Point.isDetector) = true ∧
      25400000 ≤ chainMm mapA 3 ∧
      ready 23 [2#8, 3#8] (train [runA 1 25990000, runA 2 25400000])
        (fun s => s.tracker.runs == [runA 1 25990000] ++ runA 2 25400000 :: [] && (s.map[3]?).any Point.isDetector) = true ∧
      25990000 < chainMm mapA 3 ∧ ¬ (26000000 < chainMm mapA 3)) :=
  ⟨asked_counted _ _ sequencing_counted, by decide +kernel, by decide +kernel, by decide +kernel⟩

/-- Slot 1 holds the reservation of valve 1. -/
def reservedByB : State := (on mapB .guarded).updValve 1 (fun v => { v with reserving := some 1 })
/-- A slot is in one of these states. -/
def slotIn (k : SlotId) (xs : List SlotState) (s : State) : Bool := xs.contains (s.slot k).state

theorem witness_SlotsAreArmedAndPrepared :
    (ready 30 [0#8, 0#8, 1#8, 0#8, 1#8, 0#8, 0#8, 0#8] (on mapB .monitor) (fun s => !inMode .guarded s) = true ∧
      (∀ x ∈ ([[4, 0, 1, 0, 1, 0, 0, 0], [0, 16, 1, 0, 1, 0, 0, 0], [0, 0, 8, 0, 1, 0, 0, 0], [0, 0, 1, 3, 1, 0, 0, 0],
          [0, 0, 1, 0, 0, 0, 0, 0], [0, 0, 1, 0, 17, 0, 0, 0], [0, 0, 1, 0, 1, 28, 33, 0], [0, 0, 1, 0, 1, 0, 0, 2]]
          : List (List Nat)), ready 30 (x.map byte) (on mapB .guarded) (inMode .guarded) = true) ∧
      ready 30 [0#8, 0#8, 1#8, 0#8, 1#8, 0#8, 0#8, 0#8] sequencing
        (fun s => inMode .guarded s && !slotIn 0 [.idle] s) = true ∧
      ready 30 [3#8, 15#8, 1#8, 2#8, 16#8, 28#8, 32#8, 1#8] (on mapB .guarded)
        (fun s => inMode .guarded s && slotIn 3 [.idle] s && (s.programAt 15).isNone) = true ∧
      ready 30 [3#8, 0#8, 7#8, 2#8, 16#8, 28#8, 32#8, 1#8] (on mapB .guarded)
        (fun s => inMode .guarded s && slotIn 3 [.idle] s && (s.classAt 7).isNone) = true ∧
      ready 30 [3#8, 0#8, 1#8, 2#8, 16#8, 28#8, 32#8, 1#8] reservedByB
        (fun s => slotIn 3 [.idle] s && s.programAt 0 == some ⟨.launch, 0, 0, 5⟩ && (s.classAt 1).isSome &&
          s.stepAt (0 + 3) == some ⟨.closeValve, some 1, 0, 120, false⟩ &&
          ((s.valve 1).bind ValveRec.reserving) == some 1) = true ∧
      ready 30 [3#8, 0#8, 1#8, 2#8, 16#8, 28#8, 32#8, 1#8] (on mapB .guarded)
        (fun s => inMode .guarded s && slotIn 3 [.idle] s && s.programAt 0 == some ⟨.launch, 0, 0, 5⟩ &&
          (s.classAt 1).isSome && s.interlock.valves.all (fun v => v.reserving.isNone)) = true) ∧
    ((∀ x ∈ ([[4, 0, 0, 0, 0, 0, 0], [0, 2, 0, 0, 0, 0, 0], [0, 1, 8, 0, 1, 0, 0], [0, 1, 7, 3, 1, 0, 0], [0, 1, 7, 2, 0, 0, 0],
        [0, 1, 7, 2, 17, 0, 0], [0, 1, 7, 2, 16, 28, 33]] : List (List Nat)),
        ready 37 (x.map byte) sequencing always = true) ∧
      ready 37 [3#8, 1#8, 1#8, 2#8, 16#8, 28#8, 32#8] sequencing (slotIn 3 [.idle]) = true ∧
      ready 37 [0#8, 1#8, 7#8, 0#8, 1#8, 0#8, 0#8] sequencing
        (fun s => !slotIn 0 [.idle] s && (s.classAt 7).isNone) = true ∧
      ready 37 [0#8, 0#8, 255#8, 255#8, 255#8, 255#8, 255#8] sequencing (fun s => !slotIn 0 [.idle] s) = true ∧
      ready 37 [1#8, 1#8, 1#8, 2#8, 16#8, 28#8, 32#8] sequencing
        (fun s => !slotIn 1 [.idle] s && s.classAt 1 == some ⟨900, 100, 10, 1000, 600⟩) = true ∧ TrainMode.permissive.code = 2) ∧
    (∀ x ∈ ([[4, 0], [3, 2], [3, 1], [0, 0]] : List (List Nat)), ready 32 (x.map byte) sequencing always = true) := by
  decide +kernel

/-- Slot 0 in a state, at a step, holding the reservation of valve 1, whose control stands as given. -/
def slotAt (st : SlotState) (i : Nat) (l : Location) : State :=
  (slotWith 0 (fun r => { r with state := st, step := some i, reserved := [1] }) sequencing).updValve 1
    (fun v => { v with location := l, reserving := some 0 })
/-- The valve of point 1 stands under this control. -/
def located (l : Location) (s : State) : Bool := (s.valve 1).map ValveRec.location == some l

theorem witness_SlotRequestsActByState :
    (∀ code ∈ ([31, 33, 34, 35, 36] : List Nat), ready code [4#8] sequencing always = true ∧
      ready code [3#8] sequencing (slotIn 3 [.idle]) = true) ∧
    (ready 31 [0#8] (slotAt .armed 0 .remote) (slotIn 0 [.armed]) = true ∧
      ready 31 [0#8] (slotAt .waitStart 4 .remote) (slotIn 0 [.waitStart]) = true ∧
      ready 31 [0#8] sequencing (slotIn 0 [.running]) = true) ∧
    ready 36 [0#8] (slotAt .failed 3 .remote) (fun s => slotIn 0 [.failed] s && (s.slot 0).step == some 3) = true ∧
    (ready 35 [0#8] (slotAt .observe 4 .localControl)
        (fun s => slotIn 0 [.observe] s && (s.slot 0).reserved == [1] && located .localControl s) = true ∧
      ready 35 [0#8] (slotAt .observe 4 .remote)
        (fun s => slotIn 0 [.observe] s && (s.slot 0).reserved == [1] && located .remote s && (s.slot 0).step == some 4 &&
          s.stepAt 4 == some ⟨.endCycle, none, 0, 0, false⟩) = true ∧
      ready 35 [0#8] (slotAt .observe 2 .remote)
        (fun s => slotIn 0 [.observe] s && (s.slot 0).reserved == [1] && located .remote s && (s.slot 0).step == some 2 &&
          s.stepAt 2 == some ⟨.awaitPassage, some 3, 0, 3600, true⟩) = true ∧
      (∀ x ∈ ([(0, .openValve, .insertRun), (3, .closeValve, .endCycle), (20, .dwell, .awaitPassage),
          (22, .verifyOpen, .openValve), (19, .verifyClosed, .dwell), (10, .awaitApproach, .openValve)] :
            List (Nat × Action × Action)),
        ready 35 [0#8] (slotAt .observe x.1 .remote) (fun s => slotIn 0 [.observe] s && located .remote s &&
          (s.slot 0).step == some x.1 && (s.stepAt x.1).map StepRec.action == some x.2.1 &&
          (s.stepAt (x.1 + 1)).map StepRec.action == some x.2.2) = true) ∧
      ready 35 [0#8] (slotWith 0 (fun r => { r with countdown := 1 }) (slotAt .observe 20 .remote))
        (fun s => (s.slot 0).countdown != 0) = true ∧ ((slotAt .observe 20 .remote).slot 0).countdown = 0 ∧
      ((slotAt .observe 22 .remote).believed 1 .opened = false ∧
        (valveStands .opened (slotAt .observe 22 .remote)).believed 1 .opened = true) ∧
      ((slotWith 0 (fun r => { r with bound := some 1 }) (slotAt .observe 10 .remote)).run 1).map Run.position = some 7099999 ∧
      ((withRun (runA 1 7100000) (slotAt .observe 10 .remote)).tracker.runs.find?
          (fun x => decide (x.position < chainMm mapB 6) && x.bound.isNone)).map Run.position = some 7100000 ∧
      chainMm mapB 6 - 1000 * 1000 = 7100000) ∧
    (ready 33 [0#8] sequencing (slotIn 0 [.running]) = true ∧
      ready 33 [0#8] (slotAt .spacing 4 .remote) (slotIn 0 [.spacing]) = true ∧
      ready 33 [0#8] (slotAt .waitStart 4 .remote) (slotIn 0 [.waitStart]) = true) ∧
    (ready 34 [1#8] sequencing (fun s => slotIn 1 [.running] s && (s.slot 1).bound == some 1) = true ∧
      ready 34 [1#8] twoOrders (fun s => s.order 1 == some ⟨closeOrder, false, false⟩) = true) := by decide +kernel

theorem witness_RecordsAreRead :
    (ready 20 [2#8, 0#8] sequencing always = true ∧ ready 20 [0#8, 16#8] crowded always = true ∧
      ready 20 [0#8, 1#8] sequencing (runsAre 1) = true ∧
      ready 20 [1#8, 0#8] sequencing (fun s => !s.tracker.runs.any (fun y => y.id == 0)) = true ∧
      ready 20 [0#8, 15#8] crowded (fun s => s.tracker.runs[15]? == some (runA 16 5000000)) = true ∧
      ready 20 [1#8, 16#8] crowded (fun s => s.tracker.runs[15]? == some (runA 16 5000000) &&
        !(s.tracker.runs.take 15).any (fun y => y.id == 16)) = true) ∧
    (ready 38 [0#8] sequencing (fun s => (s.slot 0).program == some 0 && s.programAt 0 == some ⟨.launch, 0, 0, 5⟩) = true ∧
      ready 38 [3#8] sequencing (fun s => (s.slot 3).program.isNone) = true ∧ ready 38 [4#8] sequencing always = true) ∧
    (ready 40 [64#8] sequencing always = true ∧ ready 40 [63#8] sequencing (fun s => (s.valve 63).isNone) = true ∧
      ready 40 [1#8] sequencing (fun s => s.valve 1 == some (ValveRec.initial 1) &&
        valvePart s.map 1 == some ⟨.launch, 0, 0, 60, some 0⟩) = true) ∧
    (ready 41 [0#8] sequencing always = true ∧ ready 41 [127#8] sequencing always = true ∧
      ready 41 [126#8] sequencing (fun s => !s.scan.nodes.any (fun y => y.node == 126)) = true ∧
      ready 41 [22#8] sequencing (fun s => s.scan.nodes.map NodeRec.node == [21] ++ 22 :: [23, 24, 25]) = true) ∧
    (ready 42 [64#8] sequencing always = true ∧ ready 42 [63#8] sequencing (fun s => (s.flow 63).isNone) = true ∧
      ready 42 [2#8] sequencing (fun s => s.flow 2 == some (FlowRec.initial 2) && meterHold s.map 2 == some 60) = true) := by
  decide +kernel

/-- The log works in this mode. -/
def logging (m : LogMode) (s : State) : State := { s with mgmt := { s.mgmt with config := { s.mgmt.config with logMode := m } } }
/-- The log works in one of these modes. -/
def logIn (ms : List LogMode) (s : State) : Bool := ms.contains s.mgmt.config.logMode

theorem witness_LogIsReadAndResumed :
    (ready 46 [3#8, 0#8, 0#8] State.reset always = true ∧ ready 46 [2#8, 0#8, 4#8] State.reset always = true) ∧
    (∀ c ∈ ([0, 1, 2] : List Nat), ready 46 [byte c, 255#8, 3#8] State.reset (logIn [.mixed]) = true ∧
      ready 46 [byte c, 0#8, 0#8] (logging .track State.reset) (logIn [.track]) = true ∧
      ready 46 [byte c, 0#8, 0#8] (logging .traffic State.reset) (logIn [.traffic]) = true ∧
      ready 46 [byte c, 0#8, 0#8] (logging .off State.reset) (logIn [.off]) = true) ∧
    (∀ a ∈ ([0, 1, 2] : List Nat), ready 47 [byte a] State.reset always = true) := by decide +kernel

/-! ### Witnesses: invariants -/

/-- The command answers a next state. -/
def answersNext (c : Instr) (s : State) : Bool := match exec c s with | .next _ => true | _ => false

theorem next_of_answersNext {c : Instr} {s : State} (h : answersNext c s = true) : ∃ t, exec c s = .next t := by
  unfold answersNext at h
  split at h
  · exact ⟨_, ‹_›⟩
  · cases h

theorem witness_QueuesStayBounded :
    ∃ s t : State, s.QueuesBounded ∧ s.portA.down.length = 16 ∧ exec (.portAReceive closeOrder) s = .next t :=
  ⟨downFull true, (next_of_answersNext (c := .portAReceive closeOrder) (s := downFull true) (by decide +kernel)).imp
    fun _ h => ⟨by unfold State.QueuesBounded; decide +kernel, by decide +kernel, h⟩⟩

theorem witness_NoCloseIntoAnOccupiedZone :
    ∃ s t : State, s.SourcesSound ∧ s.mgmt.mode = .guarded ∧ s.tracker.runs ≠ [] ∧ exec .portBGrant s = .next t ∧
      Wire.telegram closeOrder ∈ t.portB.link.wire.drop s.portB.link.wire.length ∧ frameKind closeOrder = 17 ∧
      2 ≤ (framePayload closeOrder).length ∧ byteAt (framePayload closeOrder) 0 = 2 ∧
      valveOfNode s.map (frameDest closeOrder) = some 2 ∧ valvePart s.map 2 = some ⟨.mainline, 2000, 200, 120, none⟩ := by
  have h : (match exec .portBGrant (forwarding closeOrder (withRun (runA 1 11999999) (on mapA .guarded))) with
      | .next t => decide (Wire.telegram closeOrder ∈ t.portB.link.wire.drop
          (forwarding closeOrder (withRun (runA 1 11999999) (on mapA .guarded))).portB.link.wire.length)
      | _ => false) = true := by decide +kernel
  split at h
  · refine ⟨_, _, ?_, by decide +kernel, by decide +kernel, ‹_›, of_decide_eq_true h, by decide +kernel⟩
    intro t ht
    have : (forwarding closeOrder (withRun (runA 1 11999999) (on mapA .guarded))).portB.link.tx = none := by decide +kernel
    rw [this] at ht; cases ht
  · cases h

theorem witness_RunsStayCounted : ∃ s t : State, s.RunsCounted ∧ s.tracker.runs.length = 16 ∧ exec .powerLoss s = .next t :=
  ⟨crowded, (next_of_answersNext (c := .powerLoss) (s := crowded) (by decide +kernel)).imp
    fun _ h => ⟨crowded_counted, by decide +kernel, h⟩⟩

/-- A moving run on a section with live flow. -/
def underWay : State := flowingAt 60999999

theorem underWay_ordered : underWay.RunsOrdered := by
  refine ⟨by unfold State.RunsCounted; decide +kernel, fun h => ?_, by decide +kernel, by decide +kernel, by decide +kernel⟩
  have : underWay.tables.pendingCommit = none := by decide +kernel
  rw [this] at h; cases h
theorem underWay_next : ∃ t, exec (.secondEvent inOrder) underWay = .next t := next_of_answersNext (by decide +kernel)

theorem witness_RunsStayOrdered : ∃ s t : State, s.RunsOrdered ∧ s.tracker.runs ≠ [] ∧ exec (.secondEvent inOrder) s = .next t :=
  ⟨underWay, underWay_next.imp fun _ h => ⟨underWay_ordered, by decide +kernel, h⟩⟩

theorem classes_inRange : ∀ c, some c ∈ classes → c.InRange := by
  intro c h
  simp only [classes, List.mem_cons, Option.some.injEq, reduceCtorEq, List.not_mem_nil, or_false, false_or] at h
  rcases h with rfl | rfl <;> exact ⟨by decide, by decide, by decide, by decide⟩

theorem underWay_withinClass : underWay.RunsWithinClass := by
  refine ⟨⟨by decide +kernel, ?_⟩, ⟨by decide +kernel, ?_⟩, by decide +kernel, ?_⟩
  · have : underWay.tables.active.classes = classes := by decide +kernel
    rw [this]; exact classes_inRange
  · have : underWay.tables.shadow.classes = List.replicate 8 none := by decide +kernel
    rw [this]; intro c h; simp at h
  · have : ∀ k, (underWay.slot k).state = .idle := by decide +kernel
    intro k h; exact absurd (this k) h

theorem witness_RunsStayWithinTheirClass :
    ∃ s t : State, s.RunsWithinClass ∧ s.tracker.runs ≠ [] ∧ exec (.secondEvent inOrder) s = .next t :=
  ⟨underWay, underWay_next.imp fun _ h => ⟨underWay_withinClass, by decide +kernel, h⟩⟩

theorem witness_BindingsStayMirrored :
    (∃ s t : State, s.BindingsMirrored ∧ (s.slot 1).bound = some 1 ∧ exec (.secondEvent inOrder) s = .next t) ∧
    ∃ s t : State, s.SlotsIdleOutsideGuarded ∧ s.mgmt.mode = .guarded ∧ (s.slot 1).state = .running ∧
      exec (.secondEvent inOrder) s = .next t :=
  have h : ∃ t, exec (.secondEvent inOrder) sequencing = .next t := next_of_answersNext (by decide +kernel)
  ⟨⟨sequencing, h.imp fun _ h => ⟨sequencing_mirrored, by decide +kernel, h⟩⟩,
   ⟨sequencing, h.imp fun _ h =>
     ⟨fun hm => absurd (by decide +kernel : sequencing.mgmt.mode = .guarded) hm, by decide +kernel, by decide +kernel, h⟩⟩⟩

theorem witness_RecordsStayMapped : ∃ s t : State, s.RecordsFollowMap ∧ exec (.portBReceive valveReport) s = .next t :=
  ⟨on mapA .monitor, (next_of_answersNext (c := .portBReceive valveReport) (s := on mapA .monitor) (by decide +kernel)).imp
    fun _ h => ⟨recordsFollow_onA, h⟩⟩

/-- A record of a track kind stands in the lower circle. -/
def logged : State :=
  { (on mapA .monitor) with log := (on mapA .monitor).logWith ((on mapA .monitor).record .runAdopted 1 0 255 2) }

theorem logged_sound : logged.LogSound := by
  refine ⟨by decide +kernel, ?_, ?_, ?_, fun _ => ⟨?_, ?_⟩, ?_, ?_⟩
  · unfold Circle.Sound; decide +kernel
  · unfold Circle.Sound; decide +kernel
  · unfold Circle.Sound; decide +kernel
  · intro i hi
    have h1 : logged.log.lower.valid = 1 := by decide +kernel
    obtain rfl : i = 0 := by omega
    exact ⟨(on mapA .monitor).record .runAdopted 1 0 255 2, by decide +kernel, by decide +kernel⟩
  · intro i hi
    have h1 : logged.log.upper.valid = 0 := by decide +kernel
    omega
  · intro h
    have : logged.mgmt.config.logMode = .mixed := by decide +kernel
    rw [this] at h; cases h
  · intro h
    have : logged.mgmt.config.logMode = .mixed := by decide +kernel
    rw [this] at h; cases h

theorem witness_LogStaysSound : ∃ s t : State, s.LogSound ∧ s.log.lower.valid = 1 ∧ exec (.secondEvent inOrder) s = .next t :=
  ⟨logged, (next_of_answersNext (c := .secondEvent inOrder) (s := logged) (by decide +kernel)).imp
    fun _ h => ⟨logged_sound, by decide +kernel, h⟩⟩

end Sys2Proof.Tests
end

