-- ==== Sys2Proof/Proofs/ClearShadow.lean ====
section
/-! PROOF. CLEAR SHADOW empties the shadow copy of the one table it names (R12). -/

namespace Sys2Proof.Machine

/-! ### The table codes (section 10.2) -/

@[simp] theorem TableId.ofCode_code (id : TableId) : TableId.ofCode id.code = some id := by cases id <;> rfl

/-- A code above 2 names no table. -/
theorem TableId.ofCode_eq_none {n : Nat} (h : 2 < n) : TableId.ofCode n = none := by
  unfold TableId.ofCode
  split
  case h_4 => rfl
  all_goals omega

/-! ### What serving a CLEAR SHADOW comes to -/

section Serve
variable {s : State} {args : List Byte} {id : TableId}

theorem serveClearShadow_unknown (h : 2 < byteAt args 0) : serveClearShadow args s = refuse stOutOfRange s := by
  simp [serveClearShadow, TableId.ofCode_eq_none h]

theorem serveClearShadow_pending (h : byteAt args 0 = id.code) (hp : s.tables.pendingCommit = some id) :
    serveClearShadow args s = refuse stPending s := by
  simp [serveClearShadow, h, hp]

theorem serveClearShadow_clears (h : byteAt args 0 = id.code) (hp : s.tables.pendingCommit ≠ some id) :
    serveClearShadow args s = served [] (s.setShadow (s.tables.shadow.cleared id)) := by
  simp [serveClearShadow, h, hp]

/-- Clearing a shadow copy or refusing to leaves the Management Unit alone. -/
theorem serveClearShadow_mgmt : (serveClearShadow args s).state.mgmt = s.mgmt := by
  unfold serveClearShadow
  split
  · rfl
  · split <;> rfl

end Serve

/-- A CLEAR SHADOW of the right length, about to be served, gives the answer of its body. -/
theorem exec_clearShadow_serving {s : State} {r : Request} {t : Byte} (h : s.serving r 14 [t] = true) :
    exec .clearShadow s = .next ((serveClearShadow [t] s).state.answered r 14 (serveClearShadow [t] s).status
      (serveClearShadow [t] s).data) :=
  request_serving h (by decide) (hasLength 1) serveClearShadow fun _ => congrArg Mgmt.waiting serveClearShadow_mgmt

/-- Settles O45, from the three outcomes of `serveClearShadow`. -/
theorem clearShadowEmptiesOneCopy : Obligations.ClearShadowEmptiesOneCopy := by
  unfold Obligations.ClearShadowEmptiesOneCopy
  intro r t s hs
  have cleared (id : TableId) (ht : t.toNat = id.code) (hp : s.tables.pendingCommit ≠ some id) :
      exec .clearShadow s = .next ((s.setShadow (s.tables.shadow.cleared id)).answered r 14 stOk []) := by
    rw [exec_clearShadow_serving hs, serveClearShadow_clears (args := [t]) ht hp]; rfl
  refine ⟨fun ht => ?outOfRange, fun id ht hp => ?pending, fun ht hp => ?lineMap, fun ht hp => ?classes,
    fun ht hp => ?sequence⟩
  case outOfRange => rw [exec_clearShadow_serving hs, serveClearShadow_unknown (args := [t]) ht]; rfl
  case pending => rw [exec_clearShadow_serving hs, serveClearShadow_pending (args := [t]) ht hp]; rfl
  case lineMap => exact cleared .lineMap (by rw [ht]; rfl) hp
  case classes => exact cleared .classes (by rw [ht]; rfl) hp
  case sequence => exact cleared .sequence (by rw [ht]; rfl) hp

end Sys2Proof.Machine
end

