-- ==== Sys2Proof/Proofs/AdvanceArithmetic.lean ====
section
/-! PROOF. Steps 2 to 7 of an advance: the stretch and its flow source (R2), the flow taken (R39), and what the flow makes
of the run's position, speed and band (R40 to R42). -/

namespace Sys2Proof.Machine

/-! ### The stretch of a position and its flow source (R2) -/

/-- A property of exactly the first `j + 1` indices below `n` keeps these. -/
theorem filter_range_initial {n j : Nat} {p : Nat → Bool} (hj : j < n) (hp : ∀ i < n, p i = true ↔ i ≤ j) :
    (List.range n).filter p = List.range (j + 1) := by
  have below : (List.range (j + 1)).filter p = List.range (j + 1) := by
    rw [List.filter_eq_self]
    intro i hi
    rw [List.mem_range] at hi
    exact (hp i (by omega)).2 (by omega)
  have above : ((List.range (n - (j + 1))).map (j + 1 + ·)).filter p = [] := by
    simp only [List.filter_eq_nil_iff, List.mem_map, List.mem_range]
    rintro _ ⟨d, hd, rfl⟩ hi
    have := (hp (j + 1 + d) (by omega)).1 hi
    omega
  calc (List.range n).filter p
      = (List.range (j + 1 + (n - (j + 1)))).filter p := by rw [Nat.add_sub_cancel' hj]
    _ = List.range (j + 1) := by rw [List.range_add, List.filter_append, below, above, List.append_nil]

section Stretch
variable {m : List Point}

/-- On a map in order of chainage, a point beyond another lies at a greater chainage. -/
theorem chainMm_lt (hm : m.Pairwise (fun a b => a.chainage < b.chainage)) {i j : Nat} (hij : i < j) (hj : j < m.length) :
    chainMm m i < chainMm m j := by
  have := List.pairwise_iff_getElem.1 hm i j (hij.trans hj) hj hij
  simp only [chainMm, List.getElem?_eq_getElem (hij.trans hj), List.getElem?_eq_getElem hj, Option.elim_some]
  omega

theorem chainMm_le (hm : m.Pairwise (fun a b => a.chainage < b.chainage)) {i j : Nat} (hij : i ≤ j) (hj : j < m.length) :
    chainMm m i ≤ chainMm m j := by
  obtain rfl | h := hij.eq_or_lt
  · rfl
  · exact (chainMm_lt hm h hj).le

/-- The points but END at or below a position are those up to the start of the stretch that encloses it. -/
theorem stretchIndex_eq (hm : m.Pairwise (fun a b => a.chainage < b.chainage)) {j pos : Nat} (hj : j + 1 < m.length)
    (low : chainMm m j ≤ pos) (high : j + 2 < m.length → pos < chainMm m (j + 1)) : stretchIndex m pos = j := by
  have starts : (List.range (m.length - 1)).filter (fun i => chainMm m i ≤ pos) = List.range (j + 1) := by
    refine filter_range_initial (by omega) fun i hi => ?_
    rw [decide_eq_true_iff]
    constructor
    · intro h
      by_contra beyond
      have next : chainMm m (j + 1) ≤ chainMm m i := chainMm_le hm (by omega) (by omega)
      exact absurd (high (by omega)) (by omega)
    · intro h
      exact (chainMm_le hm h (by omega)).trans low
  rw [stretchIndex, starts, List.range_succ, List.getLast?_concat, Option.getD_some]

/-- The flow source that the point itself names for its stretch. -/
def ownSource (m : List Point) (i : Nat) : Option Nat := (m[i]?).bind (fun p => p.stretch.bind Stretch.source)

theorem flowSource_zero : flowSource m 0 = ownSource m 0 := by
  simp [flowSource, ownSource]

/-- A stretch without a source of its own has that of the stretch before it. -/
theorem flowSource_succ (j : Nat) :
    flowSource m (j + 1) = if ownSource m (j + 1) = none then flowSource m j else ownSource m (j + 1) := by
  have unfolds : flowSource m (j + 1) = (ownSource m (j + 1)).or (flowSource m j) := by
    rw [flowSource, List.range_succ, List.reverse_append, List.findSome?_append]
    simp [flowSource, ownSource]
  rw [unfolds]
  cases ownSource m (j + 1) <;> simp

end Stretch

/-! ### The flow taken (Table 2-4) -/

section FlowRows
variable {f : FlowRec}

theorem flowTaken_none (h : f.state = .none) : flowTaken (some f) = ⟨0, anNoflow, 1⟩ := by
  simp [flowTaken, h]

theorem flowTaken_live (h : f.state = .live) :
    flowTaken (some f) = if f.rev then ⟨0, anReverse, 1⟩ else ⟨f.q, 0#11, 1⟩ := by
  cases hr : f.rev <;> simp [flowTaken, h, hr]

theorem flowTaken_stale (h : f.state = .stale) :
    flowTaken (some f) = if f.rev then ⟨0, anNoflow ||| anReverse, 2⟩ else ⟨f.q, anNoflow, 2⟩ := by
  cases hr : f.rev <;> simp [flowTaken, h, hr]

end FlowRows

/-! ### Velocity, speed, position and band (R40 to R42) -/

/-- The largest flow in the smallest bore gives the largest velocity. -/
theorem flowVelocity_le {q bore : Nat} (hq : q ≤ 65000) (hb : 100 ≤ bore) : flowVelocity q bore ≤ 180555 :=
  calc q * 10000 / (36 * bore)
      ≤ 65000 * 10000 / (36 * 100) := Nat.div_le_div (by omega) (by omega) (by decide)
    _ = 180555 := by decide

theorem anIf_decide (p : Prop) [Decidable p] (k : AnomalySet) : anIf (decide p) k = if p then k else 0#11 := by
  by_cases h : p <;> simp [anIf, h]

section Move
variable (taken : FlowTaken) (st : Stretch) (c : PigClass) (leader : Option Nat) (r : Run)

/-- The speed of a run that its leader does not hold back: that of the flow, up to the stretch's umax. -/
def freeSpeed : Nat := min (pigSpeed (flowVelocity taken.q st.bore) r.slip) st.umax

/-- The clamp shortens a way to `p` exactly when the leader stands before `p`. -/
theorem decide_clamp_lt (p : Nat) :
    decide (leader.elim p (fun l => min p l) < p) = leader.elim false (fun l => decide (l < p)) := by
  cases leader <;> simp

theorem moveRun_raised :
    (moveRun taken st c leader r).raised = taken.raised |||
      anIf (decide (st.umax < pigSpeed (flowVelocity taken.q st.bore) r.slip)) anOverspeed |||
      anIf (leader.elim false (fun l => decide (l < r.position + freeSpeed taken st r))) anBunch :=
  congrArg (fun bunched => _ ||| anIf bunched anBunch) (decide_clamp_lt leader (r.position + freeSpeed taken st r))

theorem moveRun_free :
    (moveRun taken st c none r).run.position = r.position + freeSpeed taken st r ∧
      (moveRun taken st c none r).run.speed = freeSpeed taken st r :=
  ⟨rfl, Nat.add_sub_cancel_left ..⟩

theorem moveRun_behind (l : Nat) (h : r.position ≤ l) :
    (moveRun taken st c (some l) r).run.position = min (r.position + freeSpeed taken st r) l ∧
      r.position + (moveRun taken st c (some l) r).run.speed = (moveRun taken st c (some l) r).run.position :=
  ⟨rfl, Nat.add_sub_cancel' (Nat.le_min.2 ⟨Nat.le_add_right .., h⟩)⟩

/-- The band grows only with a run that moved. -/
theorem moveRun_band :
    (moveRun taken st c leader r).run.band =
      if 0 < (moveRun taken st c leader r).run.speed then
        min (c.bandMax * 1000)
          (r.band + (moveRun taken st c leader r).run.speed * (c.growth * taken.factor) / 1000)
      else r.band := rfl

end Move

/-- Settles O26, one law of R2 or R39 to R42 for each clause. -/
theorem advanceArithmetic : Obligations.AdvanceArithmetic := by
  unfold Obligations.AdvanceArithmetic
  refine ⟨fun _ _ _ hm hj low high => stretchIndex_eq hm hj low high,
    fun _ j => ⟨flowSource_zero, flowSource_succ j⟩, fun _ => ?table, fun taken st c leader r => ?moved⟩
  case table =>
    exact ⟨flowTaken_none, fun h hr => by simp [flowTaken_live h, hr], fun h hr => by simp [flowTaken_live h, hr],
      fun h hr => by simp [flowTaken_stale h, hr], fun h hr => by simp [flowTaken_stale h, hr]⟩
  case moved =>
    refine ⟨flowVelocity_le, ?raised, rfl, ?free, ?behind, ?stands, ?moves, rfl, rfl, rfl, rfl, rfl⟩
    case raised => rw [moveRun_raised, anIf_decide]; rfl
    case free => rintro rfl; exact moveRun_free taken st c r
    case behind => rintro l rfl h; exact moveRun_behind taken st c r l h
    case stands => intro h; rw [moveRun_band, if_neg (Nat.not_lt.2 h.le)]
    case moves => intro h; rw [moveRun_band, if_pos h]

end Sys2Proof.Machine
end

