-- ==== Sys2Proof/Proofs/ReverseAndDuplicatePassages.lean ====
section
/-! PROOF. The intake of a passage that is not taken for matching: a REVERSE one is logged alone (R57), and one during the
hold-off is counted as a duplicate at its detector alone (R58). -/

namespace Sys2Proof.Machine

/-! ### A changed detector record -/

/-- The detector record after one more duplicate, the count standing still at 15 (R58). -/
def DetectorRec.duplicated (d : DetectorRec) : DetectorRec := { d with duplicates := min 15 (d.duplicates + 1) }

/-- Changing a detector's record leaves all but the Passage Matcher. -/
theorem State.updDetector_frame (s : State) (p : Nat) (f : DetectorRec → DetectorRec) :
    s.updDetector p f = { s with matcher := (s.updDetector p f).matcher } := rfl

/-! ### The two branches of the intake without a match -/

section Intake
variable {p : Nat} {payload : List Byte} {d : DetectorRec} {s : State}

/-- A REVERSE passage is logged with reason 1 and the duplicate count as it stands, whatever the hold-off (R57). -/
theorem takePassage_reverse (hd : s.detector p = some d) (hdir : byteAt payload 2 = 1) :
    takePassage p payload s =
      ⟨offer .passageOrphan 0 p 255 (passageDetail 1 d.duplicates (byteAt payload 1)) s, none⟩ := by
  simp only [takePassage, hd, if_pos hdir]

/-- A passage of another direction during the hold-off only makes a duplicate (R58). -/
theorem takePassage_duplicate (hd : s.detector p = some d) (hdir : byteAt payload 2 ≠ 1) (hold : 0 < d.holdOff) :
    takePassage p payload s = ⟨s.updDetector p DetectorRec.duplicated, none⟩ := by
  simp only [takePassage, hd, if_neg hdir, if_pos hold]
  rfl

end Intake

/-- Settles O32, by the branch of the intake that each passage takes. -/
theorem reverseAndDuplicatePassages : Obligations.ReverseAndDuplicatePassages := by
  unfold Obligations.ReverseAndDuplicatePassages
  intro p payload d s hd
  refine ⟨fun hdir => ?reverse, fun hdir hold => ?duplicate⟩
  case reverse => rw [takePassage_reverse hd hdir, offer_eq]; rfl
  case duplicate =>
    have counted (q : Nat) := s.detector_updDetector p q DetectorRec.duplicated (fun _ => rfl)
    rw [takePassage_duplicate hd hdir hold]
    refine ⟨rfl, ?own, fun q hq => ?other, s.updDetector_frame p _⟩
    case own => rw [counted, if_pos rfl, hd]; rfl
    case other => rw [counted, if_neg hq]

end Sys2Proof.Machine
end

