-- ==== Sys2Proof/Proofs/ControlOrderCheck.lean ====
section
/-! PROOF. The check of a VALVE ORDER by Table 5-6 (R113), row by row, and the protection zone it reads (R114). -/

namespace Sys2Proof.Machine

/-! ### The protection zone (R114) -/

section Zone
variable {m : List Point} {p : Nat} {part : ValvePart}

theorem inZone_iff {pos : Nat} :
    inZone m p part pos = true ↔
      chainMm m p - part.approach * 1000 ≤ pos ∧ pos ≤ chainMm m p + part.clearance * 1000 := by
  rw [inZone, Bool.and_eq_true, decide_eq_true_iff, decide_eq_true_iff]; rfl

theorem occupant_eq_none {rs : List Run} (free : ∀ r ∈ rs, ¬ inZone m p part r.position = true) :
    occupant m p part rs = none :=
  List.find?_eq_none.2 free

/-- The foremost run of the zone is the one with no run of the zone ahead of it. -/
theorem occupant_eq_some {ahead behind : List Run} {r : Run}
    (free : ∀ x ∈ ahead, ¬ inZone m p part x.position = true) (inside : inZone m p part r.position = true) :
    occupant m p part (ahead ++ r :: behind) = some r :=
  List.find?_eq_some_iff_append.2 ⟨inside, ahead, behind, rfl, fun x hx => by simpa using free x hx⟩

end Zone

/-- Every reserving slot stands in the way of the control unit's order (R113). -/
@[simp] theorem obstacle_control (slot : Option SlotId) : obstacle .control slot = slot := by
  cases slot <;> rfl

/-! ### The rows of Table 5-6 -/

/-- The action is OPEN, CLOSE or STOP: step 1 hands the order on to the later steps. -/
def CheckedAction (f : Frame) : Prop :=
  orderAction f = actionOpen ∨ orderAction f = actionClose ∨ orderAction f = actionStop

section Rows
variable {orig : Originator} {f : Frame} {s : State} {p : Nat} {part : ValvePart}

/-- Step 1. -/
theorem checkOrder_otherAction (h1 : orderAction f ≠ actionOpen) (h2 : orderAction f ≠ actionClose)
    (h3 : orderAction f ≠ actionStop) : checkOrder orig f s = .forward :=
  if_pos ⟨h1, h2, h3⟩

theorem CheckedAction.passes_step1 (h : CheckedAction f) :
    ¬ (orderAction f ≠ actionOpen ∧ orderAction f ≠ actionClose ∧ orderAction f ≠ actionStop) := by
  unfold CheckedAction at h
  tauto

/-- Steps 2 and 3. -/
theorem checkOrder_broadcast (ha : CheckedAction f) (hd : frameDest f = broadcast) :
    checkOrder orig f s = if orderAction f = actionClose then .reject 3 0 255 else .forward := by
  simp only [checkOrder, if_neg ha.passes_step1, if_pos hd]

/-- Step 4. -/
theorem checkOrder_noValve (hd : frameDest f ≠ broadcast) (hp : valveOfNode s.map (frameDest f) = none) :
    checkOrder orig f s = .forward := by
  simp only [checkOrder, if_neg hd, hp, ite_self]

section Valve
variable (hd : frameDest f ≠ broadcast) (hp : valveOfNode s.map (frameDest f) = some p)
include hd hp

/-- Step 5, before any reservation is looked at. -/
theorem checkOrder_stop (ha : orderAction f = actionStop) : checkOrder orig f s = .forward := by
  simp only [checkOrder, if_neg hd, hp, if_pos ha, ite_self]

/-- Step 6. -/
theorem checkOrder_reserved {j : SlotId} (ha : orderAction f = actionOpen ∨ orderAction f = actionClose)
    (hslot : obstacle orig ((s.valve p).bind ValveRec.reserving) = some j) :
    checkOrder orig f s = .reject 2 0 j.val := by
  have checked : CheckedAction f := ha.imp_right .inl
  have notStop : orderAction f ≠ actionStop := ha.elim (ne_of_eq_of_ne · (by decide)) (ne_of_eq_of_ne · (by decide))
  simp only [checkOrder, if_neg checked.passes_step1, if_neg hd, hp, if_neg notStop, hslot]

variable (hpart : valvePart s.map p = some part) (hslot : obstacle orig ((s.valve p).bind ValveRec.reserving) = none)
include hpart hslot

/-- Step 8, for an order that reads no zone. -/
theorem checkOrder_untested (h : orderAction f ≠ actionClose ∨ part.role ≠ .mainline) :
    checkOrder orig f s = .forward := by
  have noZone : ¬ (orderAction f = actionClose ∧ part.role = .mainline) := by tauto
  simp only [checkOrder, if_neg hd, hp, hslot, hpart, if_neg noZone, ite_self]

/-- Steps 7 and 8, for the CLOSE of a MAINLINE valve: its zone decides. -/
theorem checkOrder_zone (ha : orderAction f = actionClose) (hrole : part.role = .mainline) :
    checkOrder orig f s =
      (occupant s.map p part s.tracker.runs).elim .forward
        (fun r => if orig = .control then .reject 1 r.id 255 else .hold) := by
  have checked : CheckedAction f := .inr (.inl ha)
  have notStop : orderAction f ≠ actionStop := ne_of_eq_of_ne ha (by decide)
  simp only [checkOrder, if_neg checked.passes_step1, if_neg hd, hp, if_neg notStop, hslot, hpart,
    if_pos (And.intro ha hrole)]
  cases occupant s.map p part s.tracker.runs <;> rfl

end Valve
end Rows

/-- Settles O35, by the row of Table 5-6 that each order meets first. -/
theorem controlOrderCheck : Obligations.ControlOrderCheck := by
  unfold Obligations.ControlOrderCheck
  intro f s
  refine ⟨checkOrder_otherAction, fun hd ha => ?broadcastClose, fun hd ha => ?broadcastOther, checkOrder_noValve,
    fun p part hd hp hpart => ⟨checkOrder_stop hd hp, fun j ha hslot => ?reserved, fun hslot ha => ?opens,
      fun hslot ha free => ?closes, fun ahead r behind hslot ha hrole hruns free inside => ?occupied⟩⟩
  case broadcastClose => exact (checkOrder_broadcast (.inr (.inl ha)) hd).trans (if_pos ha)
  case broadcastOther =>
    have notClose : orderAction f ≠ actionClose := ha.elim (ne_of_eq_of_ne · (by decide)) (ne_of_eq_of_ne · (by decide))
    exact (checkOrder_broadcast (ha.imp_right .inr) hd).trans (if_neg notClose)
  case reserved => exact checkOrder_reserved hd hp ha ((obstacle_control _).trans hslot)
  case opens =>
    have notClose : orderAction f ≠ actionClose := ne_of_eq_of_ne ha (by decide)
    exact checkOrder_untested hd hp hpart ((obstacle_control _).trans hslot) (.inl notClose)
  case closes =>
    have unreserved := (obstacle_control _).trans hslot
    by_cases hrole : part.role = .mainline
    · have noRun := occupant_eq_none fun r hr => mt inZone_iff.1 (free.resolve_left (not_not.2 hrole) r hr)
      rw [checkOrder_zone hd hp hpart unreserved ha hrole, noRun]; rfl
    · exact checkOrder_untested hd hp hpart unreserved (.inr hrole)
  case occupied =>
    have foremost := occupant_eq_some (behind := behind) (fun x hx => mt inZone_iff.1 (free x hx)) (inZone_iff.2 inside)
    rw [checkOrder_zone hd hp hpart ((obstacle_control _).trans hslot) ha hrole, hruns, foremost]; rfl

end Sys2Proof.Machine
end

