-- ==== Sys2Proof/Proofs/ClockAndConditions.lean ====
section
/-! PROOF. SET TIME gives the section clock the value of its four bytes (R180); ACK CONDITIONS clears the flags of its set
(R182). -/

namespace Sys2Proof.Machine

/-! ### Four-byte fields (R191) -/

section Fields
variable (a b c d : Byte)

theorem be32_four : be32 [a, b, c, d] 0 = ((a.toNat * 256 + b.toNat) * 256 + c.toNat) * 256 + d.toNat :=
  calc be32 [a, b, c, d] 0
      = (a.toNat * 256 + b.toNat) * 65536 + (c.toNat * 256 + d.toNat) := rfl
    _ = ((a.toNat * 256 + b.toNat) * 256 + c.toNat) * 256 + d.toNat := by omega

theorem byte_eq_of_mod {n : Nat} {x : Byte} (h : n % 256 = x.toNat) : byte n = x :=
  BitVec.eq_of_toNat_eq ((byte_toNat n).trans h)

/-- Writing a four-byte field that was read gives its bytes back. -/
theorem put32_be32 : put32 (be32 [a, b, c, d] 0) = [a, b, c, d] := by
  have ha := Byte.toNat_lt a
  have hb := Byte.toNat_lt b
  have hc := Byte.toNat_lt c
  have hd := Byte.toNat_lt d
  simp only [be32_four, put32, List.cons.injEq, and_true]
  refine ⟨?_, ?_, ?_, ?_⟩ <;> exact byte_eq_of_mod (by omega)

end Fields

section Serve
variable {s : State} {r : Request}

/-! ### SET TIME (R180) -/

/-- A SET TIME about to be served sets the clock, or is refused for its length alone. -/
theorem exec_setTime_serving {args : List Byte} (h : s.serving r 4 args = true) :
    exec .setTime s = .next (if hasLength 4 args
      then (s.setClock (be32 args 0)).answered r 4 stOk (put32 (be32 args 0))
      else s.answered r 4 stBadRequest []) :=
  request_serving h (by decide) (hasLength 4) serveSetTime fun _ => rfl

/-! ### ACK CONDITIONS (R182) -/

/-- Of 13 flags, those that the set names are cleared and the others stand. -/
theorem getLsbD_cleared (w : BitVec 13) (set : Nat) {c : Nat} (hc : c < 13) :
    (w &&& ~~~(BitVec.ofNat 13 set)).getLsbD c = (w.getLsbD c && !set.testBit c) := by
  rw [BitVec.getLsbD_and, BitVec.getLsbD_not, BitVec.getLsbD_ofNat, decide_eq_true hc, Bool.true_and, Bool.true_and]

variable {args : List Byte}

theorem serveAckConditions_outOfRange (h : 8191 < be16 args 0) : serveAckConditions args s = refuse stOutOfRange s :=
  if_pos h

theorem serveAckConditions_clears (h : be16 args 0 ≤ 8191) :
    serveAckConditions args s = served (put16 (conditionWord (ackConditions (be16 args 0) s).mgmt.conditions).toNat)
      (ackConditions (be16 args 0) s) :=
  if_neg (Nat.not_lt.2 h)

/-- Serving ACK CONDITIONS leaves the input slot alone. -/
theorem serveAckConditions_waiting : (serveAckConditions args s).state.mgmt.waiting = s.mgmt.waiting := by
  unfold serveAckConditions
  split <;> rfl

/-- An ACK CONDITIONS of the right length, about to be served, gives the answer of its body. -/
theorem exec_ackConditions_serving {hi lo : Byte} (h : s.serving r 5 [hi, lo] = true) :
    exec .ackConditions s = .next ((serveAckConditions [hi, lo] s).state.answered r 5
      (serveAckConditions [hi, lo] s).status (serveAckConditions [hi, lo] s).data) :=
  request_serving h (by decide) (hasLength 2) serveAckConditions fun _ => serveAckConditions_waiting

end Serve

/-- Settles O42, from what serving each of the two requests comes to. -/
theorem clockIsSetAndConditionsAcknowledged : Obligations.ClockIsSetAndConditionsAcknowledged := by
  unfold Obligations.ClockIsSetAndConditionsAcknowledged
  refine ⟨fun r a b c d s hs => ?setsClock, fun r args s hs hlen => ?wrongLength,
    fun r hi lo s hs => ⟨fun hset => ?outOfRange, fun hset => ⟨fun c hc => getLsbD_cleared _ _ hc, ?clears⟩⟩⟩
  case setsClock =>
    have fits : hasLength 4 [a, b, c, d] = true := rfl
    rw [exec_setTime_serving hs, if_pos fits, put32_be32, be32_four]; rfl
  case wrongLength =>
    have refused : ¬ hasLength 4 args = true := mt beq_iff_eq.1 hlen
    rw [exec_setTime_serving hs, if_neg refused]; rfl
  case outOfRange => rw [exec_ackConditions_serving hs, serveAckConditions_outOfRange (args := [hi, lo]) hset]; rfl
  case clears => rw [exec_ackConditions_serving hs, serveAckConditions_clears (args := [hi, lo]) hset]; rfl

end Sys2Proof.Machine
end

section
/-! PROOF. What a command can do, said once: the changes of the controller's units (`UnitChange`), the changes of the ports,
the input slot and the lifecycle (`Change`), and that every command is a course of such changes. An invariant of every command
is an invariant of every change. -/

namespace Sys2Proof.Machine

open Relation

/-! ### Conditions of the changes -/

/-- The runs are ordered leader first, each between its last fix and the END point (R30). -/
def RunsInOrder (m : List Point) (rs : List Run) : Prop :=
  rs.Pairwise (fun a b => b.position ≤ a.position) ∧
  ∀ r ∈ rs, chainMm m r.lastFix ≤ r.position ∧ r.position ≤ endMm m

/-- The class of a run is defined and its slip and band are within their limits (R8, R27). -/
def State.RunInClass (s : State) (r : Run) : Prop :=
  (s.classAt r.cls).isSome ∧ 500 ≤ r.slip ∧ r.slip ≤ 1000 ∧
    (s.classOf r.cls).band0 * 1000 ≤ r.band ∧ r.band ≤ (s.classOf r.cls).bandMax * 1000

/-- A run table that may replace the one of a state: the same runs, moved and fixed as the rules let them be. -/
structure RunsKept (s : State) (rs : List Run) : Prop where
  ids : rs.map Run.id = s.tracker.runs.map Run.id
  bound : (s.tracker.runs.map Run.id).Nodup → rs.map Run.bound = s.tracker.runs.map Run.bound
  inOrder : (s.tracker.runs.map Run.id).Nodup → s.map.Pairwise (fun a b => a.chainage < b.chainage) →
    RunsInOrder s.map s.tracker.runs → RunsInOrder s.map rs
  inClass : s.tables.active.ClassesInRange → (∀ r ∈ s.tracker.runs, s.RunInClass r) → ∀ r ∈ rs, s.RunInClass r

/-- A slot record that may replace the one of a slot: no slot leaves IDLE or changes its binding, an IDLE slot has none, and
every class it names was named before or is defined. -/
structure SlotKept (s : State) (k : SlotId) (x : Slot) : Prop where
  bound : x.bound = (s.slot k).bound
  idle : x.state = .idle → (s.slot k).state = .idle ∨ x.bound = none
  active : x.state ≠ .idle → (s.slot k).state ≠ .idle
  cls : x.cls = (s.slot k).cls ∨ ∃ ch, (s.slot k).chain = some ch ∧ x.cls = ch.cls
  chain : ∀ ch, x.chain = some ch → (s.slot k).chain = some ch ∨ (s.classAt ch.cls).isSome

/-- A slot record that differs in no field which the invariants read. -/
theorem SlotKept.of_same {s : State} {k : SlotId} {x : Slot} (hb : x.bound = (s.slot k).bound)
    (hs : x.state = (s.slot k).state) (hc : x.cls = (s.slot k).cls) (hch : x.chain = (s.slot k).chain) :
    SlotKept s k x :=
  ⟨hb, fun h => .inl (hs ▸ h), fun h => hs ▸ h, .inl hc, fun _ h => .inl (hch ▸ h)⟩

/-- No COMMIT that was taken stands in service. -/
def State.NoCommitTaken (s : State) : Prop := ∀ r, s.mgmt.service ≠ some ⟨r, .commitTaken⟩

/-- A run leaves the table and its bindings end; its record is not written yet (R36, R37). -/
def takeOut (w : WayOut) (id : Nat) (s : State) : State :=
  countOut w (clearBindingTo id (s.setRuns (s.tracker.runs.filter (fun x => x.id != id))))

/-- A new run of a slot enters the table, bound to it; its record is not written yet (R31, R139). -/
def insertBound (k : SlotId) (s : State) : State :=
  (enterRun (entryRun s s.nextRunId (s.slot k).cls (s.trapOf k) (.launched k) (some k)) s).updSlot k
    (fun r => { r with bound := some s.nextRunId, count := r.count - 1 })

/-! ### The changes -/

/-- A change within the units of the controller: none of the ports' queues, links and counts, the input slot, the active
tables and the pending commit. -/
inductive UnitChange : State → State → Prop
  | raise (c : Nat) (s : State) : UnitChange s (raise c s)
  | offer (kind : LogKind) (run point slot detail : Nat) (s : State) : UnitChange s (offer kind run point slot detail s)
  | freeze (s : State) : UnitChange s { s with log := { s.log with frozen := true } }
  | resumeLog (empty : Bool) (s : State) : UnitChange s (resumeLog empty s)
  | setConfig (c : Config) (s : State) : UnitChange s (s.setConfig c)
  | ackConditions (set : Nat) (s : State) : UnitChange s (ackConditions set s)
  | clock (t : BitVec 32) (s : State) : UnitChange s { s with tracker := { s.tracker with clock := t } }
  | watch (w : List WatchEntry) (s : State) : UnitChange s (s.setWatch w)
  | usedFree (s : State) : UnitChange s s.usedFree
  | lines (l : Lines) (s : State) : UnitChange s { s with lines := l }
  | scanCountdown (n : Nat) (s : State) : UnitChange s (s.setScanCountdown n)
  | pollList {ps : List Nat} {s : State} (h : ps.Sublist s.scan.pollList ∨ ps = s.scan.nodes.map NodeRec.node) :
      UnitChange s (s.setPollList ps)
  | nodes {ns : List NodeRec} {s : State} (h : ns.map NodeRec.node = s.scan.nodes.map NodeRec.node) :
      UnitChange s (s.setNodes ns)
  | valves {vs : List ValveRec} {s : State} (h : vs.map ValveRec.point = s.interlock.valves.map ValveRec.point) :
      UnitChange s (s.setValves vs)
  | detectors {ds : List DetectorRec} {s : State}
      (h : ds.map DetectorRec.point = s.matcher.detectors.map DetectorRec.point) : UnitChange s (s.setDetectors ds)
  | flows {fs : List FlowRec} {s : State} (h : fs.map FlowRec.point = s.tracker.flows.map FlowRec.point) :
      UnitChange s (s.setFlows fs)
  | runs {rs : List Run} {s : State} (h : RunsKept s rs) : UnitChange s (s.setRuns rs)
  | adopt {c p : Nat} {s : State} (room : s.hasRoom = true) (cls : (s.classAt c).isSome) (free : s.NoCommitTaken) :
      UnitChange s (enterRun (entryRun s s.nextRunId c p .adopted none) s)
  | insert {k : SlotId} {s : State} (room : s.hasRoom = true) (unbound : (s.slot k).bound = none)
      (active : (s.slot k).state ≠ .idle) : UnitChange s (insertBound k s)
  | takeOut {id : Nat} {s : State} (w : WayOut) (h : ∃ r ∈ s.tracker.runs, r.id = id) : UnitChange s (takeOut w id s)
  | abandonAll (s : State) : UnitChange s (abandonAll s)
  | unbind (k : SlotId) (s : State) : UnitChange s (unbindSlot k s)
  | bind {k : SlotId} {id : Nat} {s : State} (unbound : (s.slot k).bound = none) (active : (s.slot k).state ≠ .idle)
      (run : ∃ r ∈ s.tracker.runs, r.id = id ∧ r.bound = none) : UnitChange s (bindSlot k id s)
  | slot {k : SlotId} {x : Slot} {s : State} (h : SlotKept s k x) : UnitChange s (s.setSlot k x)
  | arm {k : SlotId} {x : Slot} {s : State} (idle : (s.slot k).state = .idle) (mode : s.mgmt.mode = .guarded)
      (cls : (s.classAt x.cls).isSome) (chain : x.chain = none) (unbound : x.bound = none) (free : s.NoCommitTaken) :
      UnitChange s (s.setSlot k x)
  | order (k : SlotId) (o : Option SlotOrder) (s : State) : UnitChange s (s.setOrder k o)
  | shadow {sh : Tables} {s : State} (h : s.tables.shadow.ClassesInRange → sh.ClassesInRange) :
      UnitChange s (s.setShadow sh)
  | mode {m : Mode} {s : State} (h : m = .guarded ∨ s.mgmt.mode ≠ .guarded ∨ ∀ k, (s.slot k).state = .idle) :
      UnitChange s (s.setMode m)

/-- A change of the Port B link that puts no telegram on it: what holds the port keeps its source, its frame and its held
place. -/
structure LinkQuiet (l m : Link) : Prop where
  tx : ∀ t, m.tx = some t → ∃ u, l.tx = some u ∧ t.source = u.source ∧ t.frame = u.frame ∧ t.placeHeld = u.placeHeld
  wire : ∃ rs : List Reply, m.wire = l.wire ++ rs.map Wire.reply

/-- A control-unit order leaves the head of the down queue rejected, its REJECT in its place of the answer queue; the
record is not written yet (R92, R116). -/
def State.rejected (s : State) (a : Answer) : State :=
  ((s.setDown s.portA.down.tail).updLink .b Link.release).setAnswers (s.portA.answers ++ [a])

/-- Both ports emptied by a link clear (R95). -/
def State.emptied (s : State) : State :=
  { s with
    portA := { link := s.portA.link.abandon, down := [], answers := [], alert := none }
    portB := { s.portB with link := s.portB.link.abandon, up := [], orders := ⟨none, none, none, none⟩, burst := 0 } }

/-- A change of the controller that puts no telegram on Port B. -/
inductive Change : State → State → Prop
  | unit {s t : State} (h : UnitChange s t) : Change s t
  | alert (a : Option Alert) (s : State) : Change s (s.setAlert a)
  | linkA (l : Link) (s : State) : Change s (s.setLink .a l)
  | linkB {l : Link} {s : State} (h : LinkQuiet s.portB.link l) : Change s (s.setLink .b l)
  | answer {a : Answer} {s : State} (h : 0 < s.freePlaces) : Change s (s.setAnswers (s.portA.answers ++ [a]))
  | answers {q : List Answer} {s : State} (h : q.length ≤ s.portA.answers.length) : Change s (s.setAnswers q)
  | down {q : List Frame} {s : State} (h : q.length ≤ s.portA.down.length ∨ q.length ≤ 16) : Change s (s.setDown q)
  | up {q : List Frame} {s : State} (h : q.length ≤ s.portB.up.length ∨ q.length ≤ 24) : Change s (s.setUp q)
  | reject {a : Answer} {s : State} (h : s.heldPlaces = 1 ∨ 0 < s.freePlaces) : Change s (s.rejected a)
  | grant {n : Nat} {turn : Bool} {s : State} (h : n ≤ 2) :
      Change s { s with portB := { s.portB with burst := n, turnForward := turn } }
  | empty (s : State) : Change s s.emptied
  | input {v : Option Service} {w : Option Request} {s : State} (h : v = s.mgmt.service ∨ s.NoCommitTaken) :
      Change s (s.setInput v w)
  | takeCommit {r : Request} {t : TableId} {s : State} (h : s.commitRefusal t = none) (free : s.NoCommitTaken) :
      Change s (takeCommit r t s)
  | applyCommit (s : State) : Change s (applyCommit s)
  | restart (straps : BitVec 7) (s : State) : Change s (restartEffects straps s)
  | powerOn (straps : BitVec 7) (s : State) : Change s (powerOnState straps s)

/-- A course of changes within the units. -/
abbrev UnitCourse : State → State → Prop := ReflTransGen UnitChange

/-- A course of changes of the controller that puts no telegram on Port B. -/
abbrev Course : State → State → Prop := ReflTransGen Change

theorem UnitCourse.course {s t : State} (h : UnitCourse s t) : Course s t :=
  h.lift id fun _ _ => .unit

/-- What every change keeps, every course keeps. -/
theorem Course.keeps {P : State → Prop} (hP : ∀ s t, Change s t → P s → P t) {s t : State} (h : Course s t) (hs : P s) :
    P t := by
  induction h with
  | refl => exact hs
  | tail _ hc ih => exact hP _ _ hc ih

/-! ### What a course within the units leaves -/

/-- The ports' queues, links and counts, the input slot, the active tables, the pending commit and the waiting commands. -/
structure PortsKept (s t : State) : Prop where
  active : t.tables.active = s.tables.active
  pendingCommit : t.tables.pendingCommit = s.tables.pendingCommit
  service : t.mgmt.service = s.mgmt.service
  waiting : t.mgmt.waiting = s.mgmt.waiting
  linkA : t.portA.link = s.portA.link
  down : t.portA.down = s.portA.down
  answers : t.portA.answers = s.portA.answers
  linkB : t.portB.link = s.portB.link
  up : t.portB.up = s.portB.up
  burst : t.portB.burst = s.portB.burst
  turn : t.portB.turnForward = s.portB.turnForward
  pending : t.pending = s.pending

theorem PortsKept.refl (s : State) : PortsKept s s := by constructor <;> rfl

theorem PortsKept.trans {s t u : State} (h : PortsKept s t) (g : PortsKept t u) : PortsKept s u := by
  cases h; cases g; constructor <;> simp_all

theorem PortsKept.freePlaces {s t : State} (h : PortsKept s t) : t.freePlaces = s.freePlaces := by
  simp only [State.freePlaces, State.heldPlaces, h.answers, h.linkB]

theorem PortsKept.noCommitTaken {s t : State} (h : PortsKept s t) (hs : s.NoCommitTaken) : t.NoCommitTaken := by
  simpa only [State.NoCommitTaken, h.service] using hs

theorem Sequenced.portsKept {ks : SlotId → Prop} {s t : State} (h : Sequenced ks s t) : PortsKept s t where
  active := by rw [h.tables]
  pendingCommit := by rw [h.tables]
  service := h.service
  waiting := h.waiting
  linkA := h.linkA
  down := h.down
  answers := h.answers
  linkB := h.linkB
  up := h.up
  burst := h.burst
  turn := h.turn
  pending := h.pending

theorem clearBindingTo_portsKept (id : Nat) (s : State) : PortsKept s (clearBindingTo id s) := by
  unfold clearBindingTo
  refine foldl_keeps (PortsKept s) _ (fun t k h => h.trans ?_) _ s (.refl s)
  split <;> constructor <;> rfl

theorem takeOut_portsKept (w : WayOut) (id : Nat) (s : State) : PortsKept s (takeOut w id s) := by
  have h := clearBindingTo_portsKept id (s.setRuns (s.tracker.runs.filter (fun x => x.id != id)))
  unfold takeOut
  cases w <;> exact ⟨h.1, h.2, h.3, h.4, h.5, h.6, h.7, h.8, h.9, h.10, h.11, h.12⟩

/-- The leaving of a run is its taking out and then its record. -/
theorem removeRun_eq_takeOut (w : WayOut) (r : Run) (point detail : Nat) (s : State) :
    removeRun w r point detail s = offer w.kind r.id point (slotNumber r.bound) detail (takeOut w r.id s) := rfl

theorem UnitChange.portsKept {s t : State} (h : UnitChange s t) : PortsKept s t := by
  cases h with
  | takeOut w h => exact takeOut_portsKept w _ s
  | abandonAll =>
    refine foldl_keeps (PortsKept s) _ (fun t r h => h.trans ?_) _ s (.refl s)
    exact (takeOut_portsKept .abandoned r.id t).trans (by constructor <;> rfl)
  | unbind k => rw [unbindSlot_eq]; constructor <;> rfl
  | _ => constructor <;> rfl

theorem UnitCourse.portsKept {s t : State} (h : UnitCourse s t) : PortsKept s t := by
  induction h with
  | refl => exact .refl s
  | tail _ hc ih => exact ih.trans hc.portsKept

end Sys2Proof.Machine
end

section
/-! PROOF. Every operation of the units is a course of changes within them. -/

namespace Sys2Proof.Machine

open Relation

theorem UnitChange.course {s t : State} (h : UnitChange s t) : UnitCourse s t := .single h

/-- A fold is a course when each of its steps is. -/
theorem UnitCourse.foldl {α : Type} {f : State → α → State} (hf : ∀ s a, UnitCourse s (f s a)) (xs : List α) (s : State) :
    UnitCourse s (xs.foldl f s) :=
  foldl_keeps (UnitCourse s) f (fun _ a h => h.trans (hf _ a)) xs s .refl

theorem UnitCourse.ite {p : Prop} {_ : Decidable p} {s t u : State} (ht : UnitCourse s t) (hu : UnitCourse s u) :
    UnitCourse s (if p then t else u) := by split <;> assumption

/-! ### Reports -/

section Reports
variable (s : State)

theorem raise_course (c : Nat) : UnitCourse s (raise c s) := (UnitChange.raise c s).course

theorem offer_course (kind : LogKind) (run point slot detail : Nat) :
    UnitCourse s (offer kind run point slot detail s) := (UnitChange.offer kind run point slot detail s).course

theorem freezeLog_course : UnitCourse s (freezeLog s) := by
  obtain h | ⟨-, -, h⟩ := freezeLog_cases s
  · rw [h]
  · rw [h]; exact (UnitChange.freeze s).course.trans (raise_course _ _)

theorem alarmOf_course (r : Run) (raised : AnomalySet) : UnitCourse s (alarmOf r raised s) := by
  unfold alarmOf
  dsimp only
  split
  · rfl
  · generalize (if raised &&& anZone = 0#11 then 255 else r.zoneValve.getD 255) = point
    have key := (raise_course s condRunAlarm).trans (offer_course _ .anomalyAlarm r.id point (slotNumber r.bound)
      (raised &&& s.mgmt.config.alarmMask).toNat)
    split
    · exact key.trans (freezeLog_course _)
    · exact key

theorem causeCondition_course (cause : Cause) : UnitCourse s (causeCondition cause s) := by
  cases cause
  case stepFailed => exact raise_course s _
  case takeover => exact raise_course s _
  all_goals rfl

theorem logMisses_course (x : MissResult) : UnitCourse s (logMisses x s) := by
  have key := UnitCourse.foldl (f := fun s d => offer .detectorMissed x.run.id d.1 (slotNumber x.run.bound) d.2 s)
    (fun t d => offer_course t .detectorMissed x.run.id d.1 (slotNumber x.run.bound) d.2) x.missed s
  unfold logMisses
  dsimp only
  split
  · exact key.trans (offer_course _ _ _ _ _ _)
  · exact key

theorem watchTelegram_course (up : Bool) (f : Frame) : UnitCourse s (watchTelegram up f s) := by
  unfold watchTelegram
  dsimp only
  split
  · rfl
  · split
    · exact (offer_course s _ _ _ _ _).trans (freezeLog_course _)
    · exact offer_course s _ _ _ _ _

end Reports

/-! ### Records of the line -/

section Records
variable (s : State)

theorem State.updValve_course (p : Nat) (f : ValveRec → ValveRec) (hf : ∀ v, (f v).point = v.point := by intro _; rfl) :
    UnitCourse s (s.updValve p f) := (UnitChange.valves (map_key_update _ f hf p _)).course

/-- Every record changed, its key kept. -/
theorem map_key_map {α : Type} (key : α → Nat) (f : α → α) (hf : ∀ a, key (f a) = key a) (xs : List α) :
    (xs.map f).map key = xs.map key := by
  rw [List.map_map]; exact List.map_congr_left fun a _ => hf a

theorem setValves_map_course (f : ValveRec → ValveRec) (hf : ∀ v, (f v).point = v.point := by intro _; rfl) :
    UnitCourse s (s.setValves (s.interlock.valves.map f)) := (UnitChange.valves (map_key_map _ f hf _)).course

theorem setDetectors_map_course (f : DetectorRec → DetectorRec) (hf : ∀ v, (f v).point = v.point := by intro _; rfl) :
    UnitCourse s (s.setDetectors (s.matcher.detectors.map f)) := (UnitChange.detectors (map_key_map _ f hf _)).course

theorem setFlows_map_course (f : FlowRec → FlowRec) (hf : ∀ v, (f v).point = v.point := by intro _; rfl) :
    UnitCourse s (s.setFlows (s.tracker.flows.map f)) := (UnitChange.flows (map_key_map _ f hf _)).course

theorem setNodes_map_course (f : NodeRec → NodeRec) (hf : ∀ v, (f v).node = v.node := by intro _; rfl) :
    UnitCourse s (s.setNodes (s.scan.nodes.map f)) := (UnitChange.nodes (map_key_map _ f hf _)).course

/-- A change of the records of one key, as a change of every record. -/
theorem ite_key {α : Type} (key : α → Nat) {f : α → α} (hf : ∀ a, key (f a) = key a) {P : α → Prop} [DecidablePred P]
    (a : α) : key (if P a then f a else a) = key a := by split <;> simp [hf]

theorem updDetector_course (p : Nat) (f : DetectorRec → DetectorRec) (hf : ∀ v, (f v).point = v.point := by intro _; rfl) :
    UnitCourse s (s.updDetector p f) := setDetectors_map_course s _ (ite_key DetectorRec.point hf)

theorem updFlow_course (p : Nat) (f : FlowRec → FlowRec) (hf : ∀ v, (f v).point = v.point := by intro _; rfl) :
    UnitCourse s (s.updFlow p f) := setFlows_map_course s _ (ite_key FlowRec.point hf)

theorem updNode_course (n : Nat) (f : NodeRec → NodeRec) (hf : ∀ v, (f v).node = v.node := by intro _; rfl) :
    UnitCourse s (s.updNode n f) := setNodes_map_course s _ (ite_key NodeRec.node hf)

theorem logValveChange_course (p : Nat) (reserving : Option SlotId) (old new : ValveState) (loc : Location) :
    UnitCourse s (logValveChange p reserving old new loc s) := offer_course s _ _ _ _ _

theorem ValveRec.afterReport_point (v : ValveRec) (st : ValveState) (pct : Nat) (loc : Location) (tag : Nat) :
    (v.afterReport st pct loc tag).point = v.point := rfl

theorem takeValveReport_course (p : Nat) (payload : List Byte) : UnitCourse s (takeValveReport p payload s) := by
  unfold takeValveReport
  split
  · rfl
  dsimp only
  have reported (st pct loc tag) := s.updValve_course p (fun v => v.afterReport st pct loc tag)
  have logged (st pct loc tag) (reserving old new) := (reported st pct loc tag).trans
    (logValveChange_course _ p reserving old new loc)
  split
  · refine (ReflTransGen.trans ?_ (raise_course _ _)).trans (offer_course _ _ _ _ _ _)
    exact UnitCourse.ite (logged ..) (reported ..)
  · exact UnitCourse.ite (logged ..) (reported ..)

theorem silenceValve_course (p : Nat) : UnitCourse s (silenceValve s p) := by
  unfold silenceValve
  split
  · rfl
  dsimp only
  refine (s.updValve_course p (fun v => { v with state := .unknown, location := .unknown })).trans ?_
  split
  · exact logValveChange_course _ _ _ _ _ _
  · rfl

theorem ValveRec.afterDelivery_point (travel action : Nat) (orig : Originator) (v : ValveRec) :
    (v.afterDelivery travel action orig).point = v.point := by
  unfold ValveRec.afterDelivery
  split_ifs <;> rfl

theorem deliverOrder_course (orig : Originator) (f : Frame) : UnitCourse s (deliverOrder orig f s) := by
  unfold deliverOrder
  split
  · rfl
  split
  · exact setValves_map_course s _ fun v => v.afterDelivery_point _ _ _
  split
  · exact s.updValve_course _ _ fun v => v.afterDelivery_point _ _ _
  · rfl

theorem mismatchValve_course (p : Nat) : UnitCourse s (mismatchValve p s) := by
  unfold mismatchValve
  split
  · rfl
  split
  · rfl
  · exact ((raise_course s _).trans (State.updValve_course _ p _)).trans (offer_course _ _ _ _ _ _)

theorem tickValve_course (p : Nat) : UnitCourse s (tickValve s p) := by
  unfold tickValve
  split
  · rfl
  split
  · rfl
  dsimp only
  split
  · exact (s.updValve_course p _).trans (mismatchValve_course _ p)
  · exact s.updValve_course p _

theorem tickTravel_course : UnitCourse s (tickTravel s) := by
  unfold tickTravel
  split
  · rfl
  · exact UnitCourse.foldl tickValve_course _ s

theorem reserveValves_course (k : SlotId) (ps : List Nat) : UnitCourse s (reserveValves k ps s) :=
  setValves_map_course s _ (ite_key ValveRec.point (by intro _; rfl))

theorem releaseValves_course (k : SlotId) : UnitCourse s (releaseValves k s) :=
  setValves_map_course s _ (ite_key ValveRec.point (by intro _; rfl))

theorem logForwarded_course (orig : Originator) (f : Frame) : UnitCourse s (logForwarded orig f s) :=
  offer_course s _ _ _ _ _

theorem logRejected_course (f : Frame) (reason run slot : Nat) : UnitCourse s (logRejected f reason run slot s) :=
  offer_course s _ _ _ _ _

theorem coverNode_course (n : Nat) (covered : Bool) : UnitCourse s (coverNode n covered s) :=
  setDetectors_map_course s _ (ite_key DetectorRec.point (by intro _; rfl))

theorem hearNode_course (n : Nat) : UnitCourse s (hearNode n s) := by
  unfold hearNode
  split
  · rfl
  dsimp only
  have heard := (updNode_course s n (fun r => { r with heard := true, missed := 0, silent := false })).trans
    (UnitChange.pollList (.inl (List.filter_sublist (p := fun m => m != n)))).course
  split
  · exact heard.trans (coverNode_course _ n true)
  · exact heard

theorem takeNodeState_course (n : Nat) (payload : List Byte) : UnitCourse s (takeNodeState n payload s) :=
  updNode_course s n _

theorem silenceNode_course (r : NodeRec) : UnitCourse s (silenceNode r s) := by
  unfold silenceNode
  dsimp only
  exact (((offer_course s _ _ _ _ _).trans (raise_course _ _)).trans (coverNode_course _ _ _)).trans
    (UnitCourse.foldl silenceValve_course _ _)

theorem missRound_course (n : Nat) : UnitCourse s (missRound s n) := by
  unfold missRound
  split
  · rfl
  split
  · rfl
  dsimp only
  split
  · exact (updNode_course s n _).trans (silenceNode_course _ _)
  · exact updNode_course s n _

theorem startRound_course : UnitCourse s (startRound s) := by
  unfold startRound
  dsimp only
  have missed := UnitCourse.foldl missRound_course (s.scan.nodes.map NodeRec.node) s
  generalize (s.scan.nodes.map NodeRec.node).foldl missRound s = u at missed ⊢
  refine missed.trans ?_
  exact (setNodes_map_course u _).trans (UnitChange.pollList (.inr rfl)).course

theorem roundAndReload_course : UnitCourse s (roundAndReload s) :=
  (startRound_course s).trans (UnitChange.scanCountdown _ _).course

theorem tickScan_course : UnitCourse s (tickScan s) := by
  unfold tickScan
  split
  · rfl
  split
  · exact roundAndReload_course s
  · exact (UnitChange.scanCountdown _ _).course

theorem FlowRec.afterReport_point (hold : Nat) (payload : List Byte) (f : FlowRec) :
    (f.afterReport hold payload).point = f.point := by
  unfold FlowRec.afterReport
  split_ifs <;> rfl

theorem FlowRec.aged_point (f : FlowRec) : f.aged.point = f.point := by
  unfold FlowRec.aged
  split <;> rfl

theorem takeFlowReport_course (n : Nat) (payload : List Byte) : UnitCourse s (takeFlowReport n payload s) := by
  unfold takeFlowReport
  split
  · rfl
  · exact updFlow_course s _ _ (FlowRec.afterReport_point _ _)

theorem ageFlows_course : UnitCourse s (ageFlows s) := setFlows_map_course s _ FlowRec.aged_point

theorem tickClock_course : UnitCourse s (tickClock s) := (UnitChange.clock _ s).course

theorem tickHoldOff_course : UnitCourse s (tickHoldOff s) := by
  unfold tickHoldOff
  split
  · rfl
  · exact setDetectors_map_course s _

theorem expireFlow_course (p : Nat) : UnitCourse s (expireFlow p s) := by
  unfold expireFlow
  split
  · rfl
  · exact updFlow_course s p _ (ite_key FlowRec.point FlowRec.aged_point)

theorem expireHoldOff_course (p : Nat) : UnitCourse s (expireHoldOff p s) := by
  unfold expireHoldOff
  split
  · rfl
  · exact updDetector_course s p _ (ite_key DetectorRec.point (by intro _; rfl))

theorem expireValve_course (p : Nat) : UnitCourse s (expireValve p s) := by
  unfold expireValve
  split
  · exact tickValve_course s p
  · rfl

theorem expireScan_course : UnitCourse s (expireScan s) := by
  unfold expireScan
  split
  · exact roundAndReload_course s
  · rfl

end Records
end Sys2Proof.Machine
end

section
/-! PROOF. The slip of a matched run (R64), and the run table under a moved, fixed or repositioned run (R30, R38, R65, R66). -/

namespace Sys2Proof.Machine

open Relation

/-! ### Slip adaptation (R64) -/

theorem clampSlip_eq (obs : Nat) : clampSlip obs = max 500 (min 1000 obs) := by
  unfold clampSlip
  split_ifs <;> omega

/-- A quarter of the way between two values of 500 to 1,000 lies between them. -/
theorem adaptedSlip_spec {slip obs : Nat} (hs : 500 ≤ slip) (hs' : slip ≤ 1000) (ho : 500 ≤ obs) (ho' : obs ≤ 1000) :
    (adaptedSlip slip obs : Int) = slip + ((obs : Int) - slip).tdiv 4 ∧
      500 ≤ adaptedSlip slip obs ∧ adaptedSlip slip obs ≤ 1000 := by
  unfold adaptedSlip
  have h : ((obs : Int) - slip).tdiv 4 = if (obs : Int) - slip < 0 then -((slip - obs : Int) / 4) else (obs - slip : Int) / 4 := by
    split
    · rw [← Int.tdiv_eq_ediv_of_nonneg (by omega), ← Int.neg_tdiv, Int.neg_sub]
    · exact Int.tdiv_eq_ediv_of_nonneg (by omega)
  rw [h]
  split <;> omega

theorem adaptSlip_still (m : List Point) (pd : Nat) {r : Run} (h : r.flowDist = 0) : adaptSlip m pd r = (r.slip, 0#11) :=
  if_pos h

theorem adaptSlip_flowed (m : List Point) (pd : Nat) {r : Run} (h : r.flowDist ≠ 0) :
    adaptSlip m pd r =
      (adaptedSlip r.slip (clampSlip (observedSlip (pd - chainMm m r.lastFix) r.flowDist)),
        anIf (observedSlip (pd - chainMm m r.lastFix) r.flowDist !=
          clampSlip (observedSlip (pd - chainMm m r.lastFix) r.flowDist)) anSlipclamp) := if_neg h

/-- Settles O31, from the clamp and the quarter. -/
theorem slipMovesAQuarter : Obligations.SlipMovesAQuarter := by
  unfold Obligations.SlipMovesAQuarter
  intro m pd r
  refine ⟨adaptSlip_still m pd, fun hf hs hs' => ?_⟩
  rw [adaptSlip_flowed m pd (by omega), clampSlip_eq]
  obtain ⟨heq, hlow, hhigh⟩ := adaptedSlip_spec hs hs'
    (obs := max 500 (min 1000 (observedSlip (pd - chainMm m r.lastFix) r.flowDist))) (by omega) (by omega)
  refine ⟨heq, hlow, hhigh, ?_⟩
  simp only [observedSlip, anIf, bne_iff_ne]
  generalize (pd - chainMm m r.lastFix) * 1000 / r.flowDist = obs
  exact if_congr (by omega) rfl rfl

theorem adaptSlip_bounds (m : List Point) (pd : Nat) {r : Run} (h : 500 ≤ r.slip) (h' : r.slip ≤ 1000) :
    500 ≤ (adaptSlip m pd r).1 ∧ (adaptSlip m pd r).1 ≤ 1000 := by
  obtain ⟨still, flowed⟩ := slipMovesAQuarter m pd r
  by_cases hf : r.flowDist = 0
  · rw [still hf]; exact ⟨h, h'⟩
  · obtain ⟨-, low, high, -⟩ := flowed (by omega) h h'
    exact ⟨low, high⟩

theorem matchSlip_bounds (m : List Point) (pd : Nat) (t : Tier) {r : Run} (h : 500 ≤ r.slip) (h' : r.slip ≤ 1000) :
    500 ≤ (matchSlip m pd t r).1 ∧ (matchSlip m pd t r).1 ≤ 1000 := by
  cases t
  case refound => exact ⟨h, h'⟩
  all_goals exact adaptSlip_bounds m pd h h'

/-! ### One run among the others -/

section Split
variable {rs ahead behind : List Run} {r : Run}

/-- The run with an id, with the runs ahead of it and behind it. -/
theorem exists_split_of_find? {id : Nat} (h : rs.find? (fun x => x.id == id) = some r) :
    r.id = id ∧ ∃ ahead behind, rs = ahead ++ r :: behind ∧ ∀ x ∈ ahead, x.id ≠ id := by
  obtain ⟨hid, ahead, behind, heq, hne⟩ := List.find?_eq_some_iff_append.1 h
  exact ⟨by simpa using hid, ahead, behind, heq, fun x hx => by simpa using hne x hx⟩

/-- With different ids, no other run has the id of a run. -/
theorem ne_of_nodup_split (h : ((ahead ++ r :: behind).map Run.id).Nodup) :
    (∀ x ∈ ahead, x.id ≠ r.id) ∧ ∀ x ∈ behind, x.id ≠ r.id := by
  rw [List.map_append, List.map_cons, List.nodup_middle, List.nodup_cons, ← List.map_append] at h
  have other (x : Run) (hx : x ∈ ahead ++ behind) : x.id ≠ r.id := fun e => h.1 (e ▸ List.mem_map_of_mem hx)
  exact ⟨fun x hx => other x (List.mem_append_left _ hx), fun x hx => other x (List.mem_append_right _ hx)⟩

variable (ha : ∀ x ∈ ahead, x.id ≠ r.id)
include ha

theorem takeWhile_split : (ahead ++ r :: behind).takeWhile (fun x => x.id != r.id) = ahead := by
  rw [List.takeWhile_append_of_pos (by simpa using ha)]; simp

theorem dropWhile_split : (ahead ++ r :: behind).dropWhile (fun x => x.id != r.id) = r :: behind := by
  rw [List.dropWhile_append_of_pos (by simpa using ha)]; simp

theorem runsAhead_split : runsAhead (ahead ++ r :: behind) r.id = ahead := takeWhile_split ha

theorem runsBehind_split : runsBehind (ahead ++ r :: behind) r.id = behind := by
  rw [runsBehind, dropWhile_split ha]; rfl

theorem leaderPos_split : leaderPos (ahead ++ r :: behind) r.id = ahead.getLast?.map Run.position := by
  rw [leaderPos, runsAhead_split ha]

theorem followerPos_split : followerPos (ahead ++ r :: behind) r.id = behind.head?.map Run.position := by
  rw [followerPos, runsBehind_split ha]

theorem find?_split : (ahead ++ r :: behind).find? (fun x => x.id == r.id) = some r :=
  List.find?_eq_some_iff_append.2 ⟨by simp, ahead, behind, rfl, fun x hx => by simpa using ha x hx⟩

theorem fixInTable_split (pd : Nat) (f : Run → Run) :
    fixInTable r.id pd f (ahead ++ r :: behind) = ahead ++ f r :: drawBack pd behind := by
  rw [fixInTable, takeWhile_split ha, dropWhile_split ha]

variable (hb : ∀ x ∈ behind, x.id ≠ r.id)
include hb

/-- Changing the run with an id changes that run alone. -/
theorem map_update_split (f : Run → Run) :
    (ahead ++ r :: behind).map (fun x => if x.id = r.id then f x else x) = ahead ++ f r :: behind := by
  have same (xs : List Run) (h : ∀ x ∈ xs, x.id ≠ r.id) : xs.map (fun x => if x.id = r.id then f x else x) = xs :=
    (List.map_congr_left fun x hx => if_neg (h x hx)).trans (List.map_id _)
  rw [List.map_append, List.map_cons, same _ ha, same _ hb, if_pos rfl]

theorem filter_split : (ahead ++ r :: behind).filter (fun x => x.id != r.id) = ahead ++ behind := by
  rw [List.filter_append, List.filter_cons_of_neg (by simp), List.filter_eq_self.2 (by simpa using ha),
    List.filter_eq_self.2 (by simpa using hb)]

end Split

/-! ### Order -/

/-- No point lies beyond the END point. -/
theorem chainMm_le_endMm {m : List Point} (hm : m.Pairwise (fun a b => a.chainage < b.chainage)) (i : Nat) :
    chainMm m i ≤ endMm m := by
  by_cases h : i < m.length
  · exact chainMm_le hm (by omega) (by omega)
  · simp [chainMm, List.getElem?_eq_none (Nat.le_of_not_lt h)]

theorem runsInOrder_split {m : List Point} {ahead behind : List Run} {r : Run} :
    RunsInOrder m (ahead ++ r :: behind) ↔
      (RunsInOrder m (ahead ++ behind) ∧ (∀ a ∈ ahead, r.position ≤ a.position) ∧ (∀ b ∈ behind, b.position ≤ r.position) ∧
        chainMm m r.lastFix ≤ r.position ∧ r.position ≤ endMm m) := by
  simp only [RunsInOrder, List.pairwise_append, List.pairwise_cons, List.mem_append, List.mem_cons]
  constructor
  · rintro ⟨⟨ha, ⟨hr, hb⟩, hab⟩, hall⟩
    exact ⟨⟨⟨ha, hb, fun a h b h' => hab a h b (.inr h')⟩, fun x hx => hall x (by tauto)⟩, fun a h => hab a h r (.inl rfl),
      hr, hall r (by tauto)⟩
  · rintro ⟨⟨⟨ha, hb, hab⟩, hall⟩, har, hr, hpos⟩
    refine ⟨⟨ha, ⟨hr, hb⟩, fun a h b h' => ?_⟩, fun x hx => ?_⟩
    · obtain rfl | h' := h'
      · exact har a h
      · exact hab a h b h'
    · obtain hx | rfl | hx := hx
      · exact hall x (.inl hx)
      · exact hpos
      · exact hall x (.inr hx)

/-- With the positions falling, what stands at or ahead of the last of them stands ahead of all. -/
theorem le_of_getLast? {rs : List Run} (h : rs.Pairwise (fun a b => b.position ≤ a.position)) {p : Nat}
    (hl : ∀ l, rs.getLast?.map Run.position = some l → p ≤ l) : ∀ a ∈ rs, p ≤ a.position := by
  induction rs using List.reverseRecOn with
  | nil => simp
  | append_singleton xs x _ =>
    simp only [List.getLast?_append, List.getLast?_singleton, Option.some_or, Option.map_some, Option.some.injEq,
      forall_eq'] at hl
    simp only [List.pairwise_append, List.mem_singleton, forall_eq] at h
    intro a ha
    obtain ha | ha := List.mem_append.1 ha
    · exact hl.trans (h.2.2 a ha)
    · rw [List.mem_singleton.1 ha]; exact hl

theorem le_of_head? {rs : List Run} (h : rs.Pairwise (fun a b => b.position ≤ a.position)) {p : Nat}
    (hf : ∀ l, rs.head?.map Run.position = some l → l ≤ p) : ∀ a ∈ rs, a.position ≤ p := by
  cases rs with
  | nil => simp
  | cons x xs =>
    simp only [List.head?_cons, Option.map_some, Option.some.injEq, forall_eq'] at hf
    rw [List.pairwise_cons] at h
    intro a ha
    obtain rfl | ha := List.mem_cons.1 ha
    · exact hf
    · exact (h.1 a ha).trans hf

/-- A run set between its leader and its follower keeps the order. -/
theorem RunsInOrder.replace {m : List Point} {ahead behind : List Run} {r x : Run} (h : RunsInOrder m (ahead ++ r :: behind))
    (leader : ∀ l, ahead.getLast?.map Run.position = some l → x.position ≤ l)
    (follower : ∀ f, behind.head?.map Run.position = some f → f ≤ x.position)
    (low : chainMm m x.lastFix ≤ x.position) (high : x.position ≤ endMm m) :
    RunsInOrder m (ahead ++ x :: behind) := by
  obtain ⟨others, -, -, -, -⟩ := runsInOrder_split.1 h
  have ⟨sa, sb, _⟩ := List.pairwise_append.1 others.1
  exact runsInOrder_split.2 ⟨others, le_of_getLast? sa leader, le_of_head? sb follower, low, high⟩

/-! ### A run replaced in the table -/

/-- What may take the place of a run in the table: the same run, between its leader and its follower, in its class. -/
structure MayReplace (s : State) (r x : Run) : Prop where
  id : x.id = r.id
  bound : x.bound = r.bound
  inOrder : s.map.Pairwise (fun a b => a.chainage < b.chainage) → RunsInOrder s.map s.tracker.runs →
    (∀ l, leaderPos s.tracker.runs r.id = some l → r.position ≤ l → x.position ≤ l) ∧
    (∀ f, followerPos s.tracker.runs r.id = some f → f ≤ r.position → f ≤ x.position) ∧
    chainMm s.map x.lastFix ≤ x.position ∧ x.position ≤ endMm s.map
  inClass : s.tables.active.ClassesInRange → s.RunInClass r → s.RunInClass x

/-- With falling positions a run stands at or behind its leader and at or ahead of its follower. -/
theorem RunsInOrder.neighbours {m : List Point} {ahead behind : List Run} {r : Run}
    (h : RunsInOrder m (ahead ++ r :: behind)) :
    (∀ l, ahead.getLast?.map Run.position = some l → r.position ≤ l) ∧
      ∀ f, behind.head?.map Run.position = some f → f ≤ r.position := by
  obtain ⟨-, ha, hb, -, -⟩ := runsInOrder_split.1 h
  constructor
  · intro l hl
    obtain ⟨a, hm, rfl⟩ := Option.map_eq_some_iff.1 hl
    exact ha a (List.mem_of_getLast? hm)
  · intro f hf
    obtain ⟨b, hm, rfl⟩ := Option.map_eq_some_iff.1 hf
    exact hb b (List.mem_of_mem_head? hm)

theorem MayReplace.runsKept {s : State} {id : Nat} {r x : Run} (hr : s.run id = some r) (h : MayReplace s r x) :
    RunsKept s (s.tracker.runs.map (fun y => if y.id = id then x else y)) := by
  obtain ⟨rfl, ahead, behind, heq, ha⟩ := exists_split_of_find? hr
  refine ⟨?ids, fun nodup => ?bound, fun nodup hm ho => ?order, fun hc hall => ?cls⟩
  case ids =>
    rw [List.map_map]
    refine List.map_congr_left fun y _ => ?_
    simp only [Function.comp_apply]
    split
    · next e => rw [h.id, e]
    · rfl
  case bound =>
    rw [heq] at nodup ⊢
    rw [map_update_split ha (ne_of_nodup_split nodup).2 (fun _ => x)]
    simp [h.bound]
  case order =>
    obtain ⟨leader, follower, low, high⟩ := h.inOrder hm ho
    rw [heq] at nodup ho leader follower ⊢
    rw [map_update_split ha (ne_of_nodup_split nodup).2 (fun _ => x)]
    rw [leaderPos_split ha] at leader
    rw [followerPos_split ha] at follower
    exact ho.replace (fun l hl => leader l hl (ho.neighbours.1 l hl)) (fun f hf => follower f hf (ho.neighbours.2 f hf))
      low high
  case cls =>
    intro y hy
    obtain ⟨z, hz, rfl⟩ := List.mem_map.1 hy
    split
    · exact h.inClass hc (hall r (s.run_mem hr).1)
    · exact hall z hz

/-- A run replaced by what may take its place is a change. -/
theorem MayReplace.course {s : State} {id : Nat} {r x : Run} (hr : s.run id = some r) (h : MayReplace s r x) :
    UnitCourse s (s.updRun id (fun _ => x)) := (UnitChange.runs (h.runsKept hr)).course

/-- A run that differs from the old one in no field which the invariants read. -/
theorem MayReplace.of_same {s : State} {r x : Run} (hr : s.run r.id = some r) (id : x.id = r.id) (bound : x.bound = r.bound)
    (position : x.position = r.position) (lastFix : x.lastFix = r.lastFix) (cls : x.cls = r.cls) (slip : x.slip = r.slip)
    (band : x.band = r.band) : MayReplace s r x where
  id := id
  bound := bound
  inOrder := fun _ ho => by
    rw [position, lastFix]
    exact ⟨fun _ _ h => h, fun _ _ h => h, ho.2 r (s.run_mem hr).1⟩
  inClass := fun _ h => by unfold State.RunInClass at *; rwa [cls, slip, band]

/-- The anomaly sets of a run event are read by no invariant. -/
theorem MayReplace.afterEvent {s : State} {r x : Run} (h : MayReplace s r x) (mask raised : AnomalySet) :
    MayReplace s r (x.afterEvent mask raised) := ⟨h.id, h.bound, h.inOrder, h.inClass⟩

/-- A run event of what may take a run's place is a course. -/
theorem endRunEvent_course {s : State} {r x : Run} (raised : AnomalySet) (hr : s.run r.id = some r) (h : MayReplace s r x) :
    UnitCourse s (endRunEvent x raised s) := by
  unfold endRunEvent
  rw [h.id]
  exact ((h.afterEvent _ _).course hr).trans (alarmOf_course _ _ _)

end Sys2Proof.Machine
end

section
/-! PROOF. The advance of a run (R38 to R45), its stall (R43), and the match of a passage (R60 to R67) are courses of changes. -/

namespace Sys2Proof.Machine

open Relation

/-! ### The advance of one run -/

/-- What steps 2 to 10 of an advance make of a run that stands at or behind its leader. -/
structure Advanced (c : PigClass) (leader : Option Nat) (r x : Run) : Prop where
  id : x.id = r.id
  cls : x.cls = r.cls
  slip : x.slip = r.slip
  bound : x.bound = r.bound
  lastFix : x.lastFix = r.lastFix
  ahead : (∀ l, leader = some l → r.position ≤ l) → r.position ≤ x.position
  clamped : ∀ l, leader = some l → x.position ≤ l
  band : c.band0 ≤ c.bandMax → c.band0 * 1000 ≤ r.band → r.band ≤ c.bandMax * 1000 →
    c.band0 * 1000 ≤ x.band ∧ x.band ≤ c.bandMax * 1000

/-- A step of the advance that changes no field which the invariants read. -/
theorem Advanced.same {c : PigClass} {leader : Option Nat} {r x y : Run} (h : Advanced c leader r x) (id : y.id = x.id)
    (cls : y.cls = x.cls) (slip : y.slip = x.slip) (bound : y.bound = x.bound) (lastFix : y.lastFix = x.lastFix)
    (position : y.position = x.position) (band : y.band = x.band) : Advanced c leader r y where
  id := id.trans h.id
  cls := cls.trans h.cls
  slip := slip.trans h.slip
  bound := bound.trans h.bound
  lastFix := lastFix.trans h.lastFix
  ahead := position ▸ h.ahead
  clamped := position ▸ h.clamped
  band := band ▸ h.band

theorem moveRun_advanced (taken : FlowTaken) (st : Stretch) (c : PigClass) (leader : Option Nat) (r : Run) :
    Advanced c leader r (moveRun taken st c leader r).run where
  id := rfl
  cls := rfl
  slip := rfl
  bound := rfl
  lastFix := rfl
  ahead := by
    intro h
    cases leader with
    | none => exact Nat.le_add_right _ _
    | some l => exact Nat.le_min.2 ⟨Nat.le_add_right _ _, h l rfl⟩
  clamped := by rintro l rfl; exact Nat.min_le_right _ _
  band := by
    intro hc low high
    rw [moveRun_band]
    split
    · generalize (moveRun taken st c leader r).run.speed * (c.growth * taken.factor) / 1000 = grown
      omega
    · exact ⟨low, high⟩

theorem haltRun_advanced {c : PigClass} {leader : Option Nat} {r : Run} {a : Advance} (h : Advanced c leader r a.run) :
    Advanced c leader r (haltRun c a).run := by
  unfold haltRun
  dsimp only
  split
  · split
    · exact h.same rfl rfl rfl rfl rfl rfl rfl
    · exact h.same rfl rfl rfl rfl rfl rfl rfl
  · exact h.same rfl rfl rfl rfl rfl rfl rfl

theorem missCheck_advanced (m : List Point) (covered : Nat → Bool) (ds : List Nat) {c : PigClass} {leader : Option Nat}
    {r : Run} {x : MissResult} (h : Advanced c leader r x.run) : Advanced c leader r (missCheck m covered ds x).run := by
  induction ds generalizing x with
  | nil => exact h.same rfl rfl rfl rfl rfl rfl rfl
  | cons d ds ih =>
    unfold missCheck
    dsimp only
    split
    · split
      · split
        · exact h.same rfl rfl rfl rfl rfl rfl rfl
        · exact ih (h.same rfl rfl rfl rfl rfl rfl rfl)
      · exact ih h
    · exact h.same rfl rfl rfl rfl rfl rfl rfl

/-- The run that the advance of a run leaves, with the kinds raised, before a run at the END point leaves. -/
def State.advanced (s : State) (r : Run) : Advance := zoneStep s (missStep s (moveAndHalt s r))

theorem State.advanced_spec (s : State) (r : Run) :
    Advanced (s.classOf r.cls) (leaderPos s.tracker.runs r.id) r (s.advanced r).run :=
  (missCheck_advanced _ _ _ (haltRun_advanced (moveRun_advanced _ _ _ _ _))).same rfl rfl rfl rfl rfl rfl rfl

theorem State.advanceRun_none {s : State} {id : Nat} (h : s.run id = none) : advanceRun s id = s := by
  simp only [advanceRun, h]

theorem State.advanceRun_lost {s : State} {id : Nat} {r : Run} (h : s.run id = some r) (hl : r.state = .lost) :
    advanceRun s id = s := by
  simp only [advanceRun, h, if_pos hl]

theorem State.advanceRun_some {s : State} {id : Nat} {r : Run} (h : s.run id = some r) (hl : r.state ≠ .lost) :
    advanceRun s id = exitStep (s.advanced r).run (endRunEvent (s.advanced r).run (s.advanced r).raised
      (logMisses (missStep s (moveAndHalt s r)) s)) := by
  simp only [advanceRun, h, if_neg hl]
  rfl

theorem freezeLog_setRuns (rs : List Run) (s : State) : (freezeLog s).setRuns rs = freezeLog (s.setRuns rs) :=
  apply_ite (State.setRuns · rs) _ _ _

/-- The alarm of a run event and the run table do not touch each other. -/
theorem alarmOf_setRuns (r : Run) (raised : AnomalySet) (rs : List Run) (s : State) :
    (alarmOf r raised s).setRuns rs = alarmOf r raised (s.setRuns rs) := by
  unfold alarmOf
  refine (apply_ite (State.setRuns · rs) _ _ _).trans (if_congr Iff.rfl rfl ?_)
  exact (apply_ite (State.setRuns · rs) _ _ _).trans (if_congr Iff.rfl (freezeLog_setRuns rs _) rfl)

theorem alarmOf_runs (r : Run) (raised : AnomalySet) (s : State) :
    (alarmOf r raised s).tracker = s.tracker := (alarmOf_reported s r raised).tracker

/-- A run held back to the END point. -/
def Run.heldAt (p : Nat) (r : Run) : Run := { r with position := min r.position p }

/-- A run event whose run is then set at the END point is the alarm after one replacement of the run. -/
theorem endRunEvent_clamped (x : Run) (raised : AnomalySet) (p : Nat) (h : p ≤ x.position) (s : State) :
    (endRunEvent x raised s).updRun x.id (fun y => { y with position := p }) =
      alarmOf x raised (s.updRun x.id (fun _ => (x.heldAt p).afterEvent s.mgmt.config.alarmMask raised)) := by
  have hmin : min x.position p = p := Nat.min_eq_right h
  have hruns : ((s.updRun x.id fun _ => x.afterEvent s.mgmt.config.alarmMask raised).tracker.runs.map fun y =>
      if y.id = x.id then { y with position := p } else y) =
      s.tracker.runs.map fun y =>
        if y.id = x.id then (x.heldAt p).afterEvent s.mgmt.config.alarmMask raised else y := by
    rw [State.updRun, State.setRuns_tracker, List.map_map]
    refine List.map_congr_left fun y _ => ?_
    simp only [Function.comp_apply]
    by_cases hy : y.id = x.id
    · simp [hy, Run.afterEvent, Run.heldAt, hmin]
    · simp [hy]
  show (alarmOf x raised _).setRuns ((alarmOf x raised _).tracker.runs.map _) = _
  rw [alarmOf_runs]
  exact (alarmOf_setRuns ..).trans (congrArg (alarmOf x raised ∘ s.setRuns) hruns)

theorem Advanced.mayReplace {s : State} {r x : Run} (hr : s.run r.id = some r)
    (h : Advanced (s.classOf r.cls) (leaderPos s.tracker.runs r.id) r x) : MayReplace s r (x.heldAt (endMm s.map)) where
  id := h.id
  bound := h.bound
  inOrder := by
    intro hm ho
    obtain ⟨-, ahead, behind, heq, ha⟩ := exists_split_of_find? hr
    have ho' := ho
    have hl := leaderPos_split (behind := behind) ha
    rw [← heq] at hl
    rw [heq] at ho'
    have forward : r.position ≤ x.position := h.ahead fun l hl' => ho'.neighbours.1 l (hl ▸ hl')
    obtain ⟨low, high⟩ := ho.2 r (s.run_mem hr).1
    have fixed := chainMm_le_endMm hm r.lastFix
    simp only [Run.heldAt, h.lastFix]
    refine ⟨fun l hl _ => ?_, fun f _ hf => ?_, ?_, Nat.min_le_right _ _⟩
    · exact (Nat.min_le_left _ _).trans (h.clamped l hl)
    · omega
    · omega
  inClass := by
    rintro ⟨-, hall⟩ ⟨defined, low, high, b0, b1⟩
    obtain ⟨c, hc⟩ := Option.isSome_iff_exists.1 defined
    have hmem : some c ∈ s.tables.active.classes := by
      rw [State.classAt, List.getD_eq_getElem?_getD] at hc
      cases hg : s.tables.active.classes[r.cls]? with
      | none => simp [hg] at hc
      | some o => rw [hg, Option.getD_some] at hc; exact hc ▸ List.mem_of_getElem? hg
    have hof : s.classOf r.cls = c := by rw [State.classOf, hc, Option.getD_some]
    have hb := h.band (hof ▸ (hall c hmem).2.2.2) b0 b1
    simp only [State.RunInClass, Run.heldAt, h.cls, h.slip]
    exact ⟨defined, low, high, hb⟩

/-- A run below the END point is not held back. -/
theorem Run.heldAt_of_lt {r : Run} {p : Nat} (h : ¬ p ≤ r.position) : r.heldAt p = r := by
  simp [Run.heldAt, Nat.min_eq_left (Nat.le_of_not_le h)]

theorem removeRun_course {s : State} (w : WayOut) (r : Run) (point detail : Nat) (h : ∃ x ∈ s.tracker.runs, x.id = r.id) :
    UnitCourse s (removeRun w r point detail s) :=
  (UnitChange.takeOut w h).course.trans (offer_course _ _ _ _ _ _)

/-- A report leaves the run with an id. -/
theorem State.run_congr {s t : State} (h : t.tracker = s.tracker) (id : Nat) : t.run id = s.run id := by
  rw [State.run, h]; rfl

theorem logMisses_reported (x : MissResult) (s : State) : Reported s (logMisses x s) := by
  have key := foldl_keeps (Reported s) (fun s d => offer .detectorMissed x.run.id d.1 (slotNumber x.run.bound) d.2 s)
    (fun t d h => h.trans (offer_reported t _ _ _ _ _)) x.missed s (.refl s)
  unfold logMisses
  dsimp only
  split
  · exact key.trans (offer_reported _ _ _ _ _ _)
  · exact key

/-- What a report leaves alone decides what may replace a run. -/
theorem MayReplace.reported {s t : State} {r x : Run} (h : MayReplace s r x) (g : Reported s t) : MayReplace t r x := by
  obtain ⟨hid, hb, ho, hc⟩ := h
  refine ⟨hid, hb, ?_, ?_⟩
  · simpa only [State.map, g.tables, g.tracker] using ho
  · simpa only [State.RunInClass, State.classAt, State.classOf, g.tables] using hc

theorem advanceRun_course (s : State) (id : Nat) : UnitCourse s (advanceRun s id) := by
  cases hr : s.run id with
  | none => rw [State.advanceRun_none hr]
  | some r =>
    by_cases hl : r.state = .lost
    · rw [State.advanceRun_lost hr hl]
    have hid := (s.run_mem hr).2
    subst hid
    have reported := logMisses_reported (missStep s (moveAndHalt s r)) s
    have may := ((s.advanced_spec r).mayReplace hr).reported reported
    have hxid := (s.advanced_spec r).id
    rw [State.advanceRun_some hr hl]
    refine (logMisses_course s (missStep s (moveAndHalt s r))).trans ?_
    rw [← State.run_congr reported.tracker] at hr
    have hmap : (logMisses (missStep s (moveAndHalt s r)) s).map = s.map := by rw [State.map, reported.tables]; rfl
    rw [← hmap] at may
    generalize logMisses (missStep s (moveAndHalt s r)) s = u at *
    generalize s.advanced r = a at *
    have hmap' : (endRunEvent a.run a.raised u).map = u.map := by
      rw [State.map, endRunEvent, (alarmOf_reported _ _ _).tables]; rfl
    unfold exitStep
    rw [hmap', hmap]
    rw [hmap] at may
    split
    · next hend =>
      rw [endRunEvent_clamped _ _ _ hend]
      refine ((hxid ▸ (may.afterEvent u.mgmt.config.alarmMask a.raised).course hr).trans (alarmOf_course _ a.run a.raised)).trans
        (removeRun_course _ _ _ _ ?_)
      rw [alarmOf_runs]
      refine ⟨_, List.mem_map_of_mem (u.run_mem hr).1, ?_⟩
      simp only [hxid, if_true]
      exact hxid
    · next hend =>
      rw [Run.heldAt_of_lt hend] at may
      exact endRunEvent_course a.raised hr may

theorem advanceAll_course (s : State) : UnitCourse s (advanceAll s) := UnitCourse.foldl advanceRun_course _ s

theorem stallRun_course (id : Nat) (s : State) : UnitCourse s (stallRun id s) := by
  unfold stallRun
  split
  · rfl
  · next r hr =>
    have hid := (s.run_mem hr).2
    subst hid
    split
    · exact endRunEvent_course _ hr (.of_same hr rfl rfl rfl rfl rfl rfl rfl)
    · rfl

/-! ### The match of a passage -/

/-- The parameters of a defined class are in range. -/
theorem State.classOf_inRange {s : State} (h : s.tables.active.ClassesInRange) {c : Nat} (hd : (s.classAt c).isSome) :
    (s.classOf c).InRange := by
  obtain ⟨k, hk⟩ := Option.isSome_iff_exists.1 hd
  rw [State.classOf, hk, Option.getD_some]
  refine h.2 k ?_
  rw [State.classAt, List.getD_eq_getElem?_getD] at hk
  cases hg : s.tables.active.classes[c]? with
  | none => simp [hg] at hk
  | some o => rw [hg, Option.getD_some] at hk; exact hk ▸ List.mem_of_getElem? hg

theorem fixInTable_ids (id pd : Nat) (f : Run → Run) (hf : ∀ r, (f r).id = id) (rs : List Run) :
    (fixInTable id pd f rs).map Run.id = rs.map Run.id := by
  have hdraw (xs : List Run) : (drawBack pd xs).map Run.id = xs.map Run.id := by
    rw [drawBack, List.map_map]
    refine List.map_congr_left fun x _ => ?_
    simp only [Function.comp_apply]
    split <;> rfl
  unfold fixInTable
  conv_rhs => rw [← List.takeWhile_append_dropWhile (p := fun r => r.id != id) (l := rs)]
  rw [List.map_append, List.map_append]
  congr 1
  split
  · next h => rw [h]
  · next r behind h =>
    have hid : r.id = id := by
      have := List.head?_dropWhile_not (fun r : Run => r.id != id) rs
      rw [h] at this
      simpa using this
    rw [h, List.map_cons, List.map_cons, hf, hid, hdraw]

/-- The candidate of a passage, with the runs ahead of it, which are none (R60). -/
theorem exists_candidate_split {m : List Point} {pd : Nat} {rs : List Run} {r : Run}
    (h : rs.find? (isCandidate m pd) = some r) : chainMm m r.lastFix < pd ∧
      ∃ ahead behind, rs = ahead ++ r :: behind ∧ ∀ a ∈ ahead, pd ≤ chainMm m a.lastFix := by
  obtain ⟨hc, ahead, behind, heq, hne⟩ := List.find?_eq_some_iff_append.1 h
  refine ⟨of_decide_eq_true hc, ahead, behind, heq, fun a ha => ?_⟩
  have := hne a ha
  simp only [isCandidate, Bool.not_eq_true', decide_eq_false_iff_not] at this
  omega

section Fix
variable {s : State} {p : Nat} {r : Run}

/-- The run that a match leaves in place of the candidate (R65). -/
def State.fixedRun (s : State) (p : Nat) (t : Tier) (r : Run) : Run :=
  r.fixed s.map (s.classOf r.cls) p (matchSlip s.map (chainMm s.map p) t r).1

/-- Fixing the foremost candidate keeps the run table, the order test met (R62, R65, R66). -/
theorem fixInTable_runsKept (hc : s.tracker.runs.find? (isCandidate s.map (chainMm s.map p)) = some r) (t : Tier)
    (order : (runsBehind s.tracker.runs r.id).any (fun x => decide (chainMm s.map p < chainMm s.map x.lastFix)) = false) :
    RunsKept s (fixInTable r.id (chainMm s.map p) (fun _ => s.fixedRun p t r) s.tracker.runs) := by
  obtain ⟨hcand, ahead, behind, heq, hahead⟩ := exists_candidate_split hc
  refine ⟨fixInTable_ids r.id _ (fun _ => s.fixedRun p t r) (fun _ => rfl) _, fun nodup => ?bound, fun nodup hm ho => ?order, fun hr hall => ?cls⟩
  case bound =>
    rw [heq] at nodup ⊢
    rw [fixInTable_split (ne_of_nodup_split nodup).1]
    simp only [drawBack, List.map_append, List.map_cons, List.map_map]
    congr 2
    refine List.map_congr_left fun x _ => ?_
    simp only [Function.comp_apply]
    split <;> rfl
  case order =>
    rw [heq] at nodup ho order ⊢
    obtain ⟨ha, hb⟩ := ne_of_nodup_split nodup
    rw [runsBehind_split ha, List.any_eq_false] at order
    rw [fixInTable_split ha, runsInOrder_split]
    obtain ⟨⟨sorted, within⟩, har, hbr, -⟩ := runsInOrder_split.1 ho
    obtain ⟨sa, sb, sab⟩ := List.pairwise_append.1 sorted
    have hdraw (x : Run) : (if chainMm s.map p < x.position then { x with position := chainMm s.map p } else x).position =
        min x.position (chainMm s.map p) := by split <;> simp <;> omega
    refine ⟨⟨List.pairwise_append.2 ⟨sa, ?_, ?_⟩, ?_⟩, ?_, ?_, le_rfl, chainMm_le_endMm hm p⟩
    · rw [drawBack, List.pairwise_map]
      refine sb.imp fun {x y} h => ?_
      rw [hdraw, hdraw]; omega
    · intro a h b hb'
      obtain ⟨y, hy, rfl⟩ := List.mem_map.1 hb'
      rw [hdraw]
      exact (Nat.min_le_left _ _).trans (sab a h y hy)
    · intro x hx
      obtain hx | hx := List.mem_append.1 hx
      · exact within x (List.mem_append_left _ hx)
      · obtain ⟨y, hy, rfl⟩ := List.mem_map.1 hx
        have hy' := within y (List.mem_append_right _ hy)
        have hlast := order y hy
        simp only [decide_eq_true_eq] at hlast
        rw [hdraw]
        have : (if chainMm s.map p < y.position then { y with position := chainMm s.map p } else y).lastFix = y.lastFix := by
          split <;> rfl
        rw [this]
        omega
    · intro a h
      exact (hahead a h).trans (within a (List.mem_append_left _ h)).1
    · intro b hb'
      obtain ⟨y, -, rfl⟩ := List.mem_map.1 hb'
      rw [hdraw]
      exact Nat.min_le_right _ _
  case cls =>
    have hr' : r ∈ s.tracker.runs := by rw [heq]; simp
    obtain ⟨hd, hs, hs', -, -⟩ := hall r hr'
    obtain ⟨hslip, hslip'⟩ := matchSlip_bounds s.map (chainMm s.map p) t hs hs'
    have hrange := s.classOf_inRange hr hd
    have fixed : s.RunInClass (s.fixedRun p t r) := ⟨hd, hslip, hslip', le_rfl, Nat.mul_le_mul_right _ hrange.2.2.2⟩
    intro x hx
    unfold fixInTable at hx
    obtain hx | hx := List.mem_append.1 hx
    · exact hall x ((List.takeWhile_sublist _).subset hx)
    · split at hx
      · simp at hx
      · next z behind' hz =>
        obtain rfl | hx := List.mem_cons.1 hx
        · exact fixed
        · obtain ⟨y, hy, rfl⟩ := List.mem_map.1 hx
          have hmem : y ∈ s.tracker.runs := (List.dropWhile_sublist _).subset (hz ▸ List.mem_cons_of_mem _ hy)
          have := hall y hmem
          split <;> exact this

/-- After the fix the run with the id is the fixed one. -/
theorem fixInTable_find? (pd : Nat) {x : Run} (hr : r ∈ s.tracker.runs) (hx : x.id = r.id) :
    (fixInTable r.id pd (fun _ => x) s.tracker.runs).find? (fun y => y.id == r.id) = some x := by
  unfold fixInTable
  rw [List.find?_append, Option.or_eq_some_iff]
  right
  constructor
  · exact List.find?_eq_none.2 fun y hy => by simpa using List.mem_takeWhile_imp hy
  · split
    · next h =>
      rw [List.dropWhile_eq_nil_iff] at h
      exact absurd (h r hr) (by simp)
    · simp [hx]

theorem fixRun_course (dups count : Nat) (t : Tier)
    (hc : s.tracker.runs.find? (isCandidate s.map (chainMm s.map p)) = some r)
    (order : (runsBehind s.tracker.runs r.id).any (fun x => decide (chainMm s.map p < chainMm s.map x.lastFix)) = false) :
    UnitCourse s (fixRun p dups count t r s) := by
  unfold fixRun
  dsimp only
  refine ((UnitChange.runs (fixInTable_runsKept hc t order)).course.trans
    (offer_course _ .passageMatched r.id p (slotNumber r.bound) (passageDetail t.code dups count))).trans ?_
  have found := fixInTable_find? (chainMm s.map p) (x := s.fixedRun p t r) (List.mem_of_find?_eq_some hc) rfl
  exact endRunEvent_course (r := s.fixedRun p t r) _ found (.of_same found rfl rfl rfl rfl rfl rfl rfl)

/-- The match leaves the runs of the table. -/
theorem fixRun_ids (dups count : Nat) (t : Tier) :
    (fixRun p dups count t r s).tracker.runs.map Run.id = s.tracker.runs.map Run.id := by
  unfold fixRun
  dsimp only
  rw [endRunEvent, alarmOf_runs]
  simp only [State.updRun, State.setRuns_tracker, offer_tracker, List.map_map]
  rw [← fixInTable_ids r.id (chainMm s.map p) (fun _ => s.fixedRun p t r) (fun _ => rfl) s.tracker.runs]
  refine List.map_congr_left fun x _ => ?_
  simp only [Function.comp_apply]
  split
  · next h => exact h.symm
  · rfl

end Fix

theorem orphan_course (p reason dups count : Nat) (s : State) : UnitCourse s (orphan p reason dups count s) :=
  (raise_course s _).trans (offer_course _ _ _ _ _ _)

/-- Matching is a course, and a run that it matches is in the table. -/
theorem matchPassage_course (p dups count : Nat) (s : State) :
    UnitCourse s (matchPassage p dups count s).state ∧
      ∀ id, (matchPassage p dups count s).run = some id →
        ∃ r ∈ (matchPassage p dups count s).state.tracker.runs, r.id = id := by
  unfold matchPassage
  dsimp only
  split
  · exact ⟨orphan_course _ _ _ _ _, nofun⟩
  next r hc =>
  split
  · exact ⟨orphan_course _ _ _ _ _, nofun⟩
  next t _ =>
  split
  · exact ⟨orphan_course _ _ _ _ _, nofun⟩
  next order =>
  refine ⟨fixRun_course dups count t hc (by simpa using order), ?_⟩
  rintro id ⟨⟩
  have hmem := List.mem_of_find?_eq_some hc
  have := List.mem_map_of_mem (f := Run.id) hmem
  rw [← fixRun_ids (p := p) dups count t] at this
  exact List.mem_map.1 this

theorem takePassage_course (p : Nat) (payload : List Byte) (s : State) :
    UnitCourse s (takePassage p payload s).state ∧
      ∀ id, (takePassage p payload s).run = some id →
        ∃ r ∈ (takePassage p payload s).state.tracker.runs, r.id = id := by
  unfold takePassage
  split
  · exact ⟨.refl, nofun⟩
  dsimp only
  split
  · exact ⟨offer_course _ _ _ _ _ _, nofun⟩
  split
  · exact ⟨updDetector_course s p _, nofun⟩
  · obtain ⟨h, hr⟩ := matchPassage_course p _ (byteAt payload 1) (s.updDetector p fun d =>
      { d with holdOff := ((detectorPart s.map p).map Prod.snd).getD 0, duplicates := 0 })
    exact ⟨(updDetector_course s p _).trans h, hr⟩

end Sys2Proof.Machine
end

section
/-! PROOF. The Sequence Unit's operations on a slot that is not IDLE are courses of changes (R135 to R146). -/

namespace Sys2Proof.Machine

open Relation

/-- A slot takes part in a train: it is not IDLE. -/
def State.Active (s : State) (k : SlotId) : Prop := (s.slot k).state ≠ .idle

/-- What the start of a step and its completion leave: a course, and a slot in RUNNING where a step is to be started. -/
structure StepFlow.Follows (x : StepFlow) (k : SlotId) (s : State) : Prop where
  course : UnitCourse s x.state
  running : x.goto ≠ none → (x.state.slot k).state = .running

variable {s : State} {k : SlotId}

theorem StepFlow.Follows.after {x : StepFlow} {t : State} (h : x.Follows k t) (g : UnitCourse s t) : x.Follows k s :=
  ⟨g.trans h.course, h.running⟩

theorem StepFlow.Follows.stop {t : State} (h : UnitCourse s t) : (⟨t, none⟩ : StepFlow).Follows k s := ⟨h, nofun⟩

theorem State.active_of_eq {st : SlotState} (h : (s.slot k).state = st) (hs : st ≠ .idle) : s.Active k := by
  unfold State.Active; rwa [h]

/-! ### One slot's record -/

@[simp] theorem State.slot_updSlot_same (f : Slot → Slot) : (s.updSlot k f).slot k = f (s.slot k) :=
  s.slot_setSlot_same _ _

theorem State.updSlot_course (f : Slot → Slot) (h : SlotKept s k (f (s.slot k))) : UnitCourse s (s.updSlot k f) :=
  (UnitChange.slot h).course

/-- A change of fields that no invariant reads. -/
theorem State.updSlot_course_same (f : Slot → Slot) (hb : (f (s.slot k)).bound = (s.slot k).bound)
    (hs : (f (s.slot k)).state = (s.slot k).state) (hc : (f (s.slot k)).cls = (s.slot k).cls)
    (hch : (f (s.slot k)).chain = (s.slot k).chain) : UnitCourse s (s.updSlot k f) :=
  s.updSlot_course f (.of_same hb hs hc hch)

/-- A slot that is not IDLE passes to a state other than IDLE. -/
theorem State.updSlot_course_active (f : Slot → Slot) (h : s.Active k) (hi : (f (s.slot k)).state ≠ .idle)
    (hb : (f (s.slot k)).bound = (s.slot k).bound) (hc : (f (s.slot k)).cls = (s.slot k).cls)
    (hch : (f (s.slot k)).chain = (s.slot k).chain) : UnitCourse s (s.updSlot k f) :=
  s.updSlot_course f ⟨hb, fun e => absurd e hi, fun _ => h, .inl hc, fun _ e => .inl (hch ▸ e)⟩

theorem setOrder_course (o : Option SlotOrder) : UnitCourse s (s.setOrder k o) := (UnitChange.order k o s).course

theorem unbindSlot_course (s : State) (k : SlotId) : UnitCourse s (unbindSlot k s) := (UnitChange.unbind k s).course

theorem unbindSlot_slot : (unbindSlot k s).slot k = { s.slot k with bound := none } := by
  rw [unbindSlot_eq]; exact Four.get_set_same _ _ _

theorem issueOrder_course (s : State) (k : SlotId) : UnitCourse s (issueOrder k s) := by
  unfold issueOrder
  split
  · exact (setOrder_course _).trans (State.updSlot_course_same _ rfl rfl rfl rfl)
  · exact State.updSlot_course_same _ rfl rfl rfl rfl

theorem withdrawOrder_course (s : State) (k : SlotId) : UnitCourse s (withdrawOrder k s) := by
  unfold withdrawOrder
  split
  · split
    · rfl
    · exact setOrder_course _
  · rfl

theorem loseOrder_course (s : State) (k : SlotId) : UnitCourse s (loseOrder k s) := by
  unfold loseOrder
  split
  · exact State.updSlot_course_same _ rfl rfl rfl rfl
  · rfl

theorem placeAwaiting_course (s : State) (k : SlotId) : UnitCourse s (placeAwaiting k s) := by
  obtain h | ⟨-, -, -, h⟩ := placeAwaiting_cases s k
  · rw [h]
  · rw [h]; exact issueOrder_course s k

/-! ### Termination -/

theorem withdrawOrder_seq : (withdrawOrder k s).seq = s.seq := by
  unfold withdrawOrder
  split
  · split <;> rfl
  · rfl

theorem causeCondition_seq (cause : Cause) : (causeCondition cause s).seq = s.seq :=
  (causeCondition_reported s cause).seq

theorem enterIdle_course (h : (s.slot k).bound = none) : UnitCourse s (enterIdle k s) :=
  (s.updSlot_course _ ⟨rfl, fun _ => .inr h, fun e => absurd rfl e, .inl rfl, fun _ => .inl⟩).trans
    (releaseValves_course _ k)

theorem enterArmed_course (h : s.Active k) : UnitCourse s (enterArmed k s) :=
  s.updSlot_course_active _ h (by nofun) rfl rfl rfl

theorem reloadCount_course (s : State) (k : SlotId) : UnitCourse s (reloadCount k s) := State.updSlot_course_same _ rfl rfl rfl rfl

theorem enterSpacing_follows (h : s.Active k) : (enterSpacing k s).Follows k s := by
  unfold enterSpacing
  split
  · exact ⟨s.updSlot_course_active (fun r => { r with state := .running, countdown := 0 }) h nofun rfl rfl rfl,
      fun _ => by rw [State.slot_updSlot_same]⟩
  · exact .stop (s.updSlot_course_active _ h (by nofun) rfl rfl rfl)

theorem dropTrain_course (s : State) (k : SlotId) : UnitCourse s (dropTrain k s) := by
  unfold dropTrain
  refine ((reloadCount_course s k).trans (unbindSlot_course _ k)).trans ?_
  have hb : ((unbindSlot k (reloadCount k s)).slot k).bound = none := by rw [unbindSlot_slot]
  generalize unbindSlot k (reloadCount k s) = u at hb ⊢
  refine (u.updSlot_course (fun r => { r with chain := none }) ⟨rfl, fun _ => .inr hb, id, .inl rfl, nofun⟩).trans ?_
  exact enterIdle_course (by simpa using hb)

theorem endByCount_follows (h : s.Active k) (hb : (s.slot k).bound = none) : (endByCount k s).Follows k s := by
  unfold endByCount
  split
  · next ch hch =>
    refine (enterSpacing_follows ?_).after
      (s.updSlot_course _ ⟨rfl, fun e => absurd e h, fun _ => h, .inr ⟨ch, hch, rfl⟩, by nofun⟩)
    simpa [State.Active] using h
  · split
    · exact .stop ((reloadCount_course s k).trans (enterArmed_course (by simpa [reloadCount, State.Active] using h)))
    · exact .stop ((reloadCount_course s k).trans (enterIdle_course (by simpa [reloadCount] using hb)))

theorem afterTermination_follows (cause : Cause) (h : s.Active k) (hb : cause = .count → (s.slot k).bound = none) :
    (afterTermination k cause s).Follows k s := by
  cases cause
  case count => exact endByCount_follows h (hb rfl)
  case endRequest =>
    exact .stop ((reloadCount_course s k).trans (enterArmed_course (by simpa [reloadCount, State.Active] using h)))
  case permitWithdrawn => exact .stop (enterArmed_course h)
  case stepFailed => exact .stop (s.updSlot_course_active _ h (by nofun) rfl rfl rfl)
  case takeover => exact .stop (s.updSlot_course_active _ h (by nofun) rfl rfl rfl)
  all_goals exact .stop (dropTrain_course s k)

/-- The termination of a train of a slot that is not IDLE; one by count meets the slot unbound (R145). -/
theorem terminate_follows (cause : Cause) (bound : Nat) (h : s.Active k) (hb : cause = .count → (s.slot k).bound = none) :
    (terminate k cause bound s).Follows k s := by
  unfold terminate
  dsimp only
  generalize cause.code * 256 + (s.slot k).step.getD 255 = detail
  have reports := ((offer_course s .slotEnded bound (s.trapOf k) k.val detail).trans (withdrawOrder_course _ k)).trans
    (causeCondition_course _ cause)
  have slot : (causeCondition cause (withdrawOrder k (offer .slotEnded bound (s.trapOf k) k.val detail s))).slot k =
      s.slot k := State.slot_congr (by rw [causeCondition_seq, withdrawOrder_seq, offer_seq]) k
  generalize causeCondition cause (withdrawOrder k (offer .slotEnded bound (s.trapOf k) k.val detail s)) = u at *
  refine (afterTermination_follows cause ?_ fun e => ?_).after
    (reports.trans (u.updSlot_course_same _ rfl rfl rfl rfl))
  · simpa [State.Active, slot] using h
  · simpa [slot] using hb e

theorem terminateNow_course {cause : Cause} (hc : cause ≠ .count) (h : s.Active k) : UnitCourse s (terminateNow k cause s) :=
  (terminate_follows cause _ h fun e => absurd e hc).course

/-! ### Step starts -/

theorem endStep_follows (h : s.Active k) : (endStep k s).Follows k s := by
  unfold endStep
  have hs := unbindSlot_slot (s := s) (k := k)
  have hu : (unbindSlot k s).Active k := by simpa [State.Active, hs] using h
  have hb : ((unbindSlot k s).slot k).bound = none := by rw [hs]
  refine StepFlow.Follows.after ?_ (unbindSlot_course s k)
  generalize unbindSlot k s = u at *
  dsimp only
  split
  · exact terminate_follows _ _ hu nofun
  split
  · exact terminate_follows _ _ hu fun _ => hb
  split
  · exact enterSpacing_follows hu
  · exact .stop (u.updSlot_course_active _ hu (by nofun) rfl rfl rfl)
  · exact enterSpacing_follows hu
  · exact terminate_follows _ _ hu nofun

theorem insertRunStep_follows (next : Nat) (h : (s.slot k).state = .running) : (insertRunStep k next s).Follows k s := by
  unfold insertRunStep
  have hs := unbindSlot_slot (s := s) (k := k)
  have hr : ((unbindSlot k s).slot k).state = .running := by rw [hs]; exact h
  have hb : ((unbindSlot k s).slot k).bound = none := by rw [hs]
  refine StepFlow.Follows.after ?_ (unbindSlot_course s k)
  generalize unbindSlot k s = u at *
  have hu := State.active_of_eq hr nofun
  dsimp only
  split
  · next room =>
    exact ⟨(UnitChange.insert room hb hu).course.trans (offer_course _ _ _ _ _ _),
      fun _ => by rw [State.slot_updSlot_same]; exact hr⟩
  · exact terminate_follows _ _ hu nofun

theorem takeOut_slot (w : WayOut) (id : Nat) :
    (takeOut w id s).slot k =
      { s.slot k with bound := if (s.slot k).bound = some id then none else (s.slot k).bound } := by
  have h := clearBindingTo_slot (s.setRuns (s.tracker.runs.filter (fun x => x.id != id))) id k
  cases w <;> exact h

theorem removeRunStep_follows (next : Nat) (h : (s.slot k).state = .running) : (removeRunStep k next s).Follows k s := by
  unfold removeRunStep
  split
  · next r hr =>
    obtain ⟨id, hid, hrun⟩ := Option.bind_eq_some_iff.1 hr
    obtain ⟨hmem, rfl⟩ := s.run_mem hrun
    have hs : (removeRun .received r (s.trapOf k) 0 s).slot k = { s.slot k with bound := none } := by
      rw [removeRun_eq_takeOut]
      refine (takeOut_slot .received r.id).trans ?_
      rw [hid, if_pos rfl]
    refine ⟨(removeRun_course .received r (s.trapOf k) 0 ⟨r, hmem, rfl⟩).trans
      (State.updSlot_course_same (fun r => { r with bound := none, count := r.count - 1 }) ?_ rfl rfl rfl), fun _ => ?_⟩
    · rw [hs]
    · rw [State.slot_updSlot_same, hs]; exact h
  · exact terminate_follows _ _ (State.active_of_eq h nofun) nofun

theorem approachTest_course {p d : Nat} {t : State} (ha : s.Active k) (h : approachTest k p d s = some t) :
    UnitCourse s t ∧ (t.slot k).state = (s.slot k).state := by
  unfold approachTest at h
  dsimp only at h
  split at h
  · split at h
    · cases h; exact ⟨.refl, rfl⟩
    · cases h
  · next hb =>
    split at h
    · next r hr =>
      split at h
      · cases h
        have hfree := (Bool.and_eq_true _ _ ▸ List.find?_some hr).2
        refine ⟨(UnitChange.bind hb ha ⟨r, List.mem_of_find?_eq_some hr, rfl, Option.isNone_iff_eq_none.1 hfree⟩).course, ?_⟩
        show ((s.setSlot k { s.slot k with bound := some r.id }).slot k).state = _
        rw [State.slot_setSlot_same]
      · cases h
    · cases h

theorem waitUnless_follows (done : Bool) (next : Nat) (h : (s.slot k).state = .running) :
    (waitUnless done next s).Follows k s := ⟨.refl, fun _ => h⟩

theorem startAction_follows (i : Nat) (r : StepRec) (h : (s.slot k).state = .running) : (startAction k i r s).Follows k s := by
  have ha := State.active_of_eq h nofun
  unfold startAction
  split
  · exact .stop (issueOrder_course s k)
  · exact .stop (issueOrder_course s k)
  · exact waitUnless_follows _ _ h
  · exact waitUnless_follows _ _ h
  · exact waitUnless_follows _ _ h
  · exact insertRunStep_follows _ h
  · exact .stop .refl
  · split
    · next t ht =>
      obtain ⟨course, state⟩ := approachTest_course ha ht
      exact ⟨course, fun _ => state.trans h⟩
    · exact .stop .refl
  · exact removeRunStep_follows _ h
  · exact endStep_follows ha

theorem beginStep_follows (i : Nat) (keep : Bool) (h : (s.slot k).state = .running) : (beginStep k i keep s).Follows k s := by
  unfold beginStep
  split
  · exact .stop .refl
  · exact (startAction_follows _ _ (by simpa using h)).after (s.updSlot_course_same _ rfl rfl rfl rfl)

/-- The start of a step of a slot in RUNNING, with every step that follows it at once. -/
theorem runSteps_course (fuel i : Nat) (keep : Bool) (h : (s.slot k).state = .running) :
    UnitCourse s (runSteps fuel k i keep s) := by
  induction fuel generalizing i keep s with
  | zero => exact .refl
  | succ n ih =>
    have hb := beginStep_follows i keep h
    unfold runSteps
    split
    · next hx => rw [hx] at hb; exact hb.course.trans (ih _ _ (hb.running nofun))
    · next hx => rw [hx] at hb; exact hb.course

theorem startStep_course (i : Nat) (h : (s.slot k).state = .running) : UnitCourse s (startStep k i s) :=
  runSteps_course _ _ _ h

theorem completeStep_course (h : (s.slot k).state = .running) : UnitCourse s (completeStep k s) := by
  unfold completeStep
  cases (s.slot k).step with
  | none => exact .refl
  | some i => exact startStep_course _ h

/-! ### Events of a slot -/

theorem slotDelivered_course : UnitCourse s (slotDelivered k s) := by
  unfold slotDelivered
  split
  · next h =>
    dsimp only
    have key := s.updSlot_course_same (k := k) (fun r => { r with order := .delivered }) rfl rfl rfl rfl
    split
    · exact key.trans (completeStep_course (by simpa using h.1))
    · exact key
  · rfl

theorem takeoverTest_course (p : Nat) : UnitCourse s (takeoverTest p s) := by
  unfold takeoverTest
  split
  · rfl
  split
  · rfl
  dsimp only
  split
  · next h =>
    refine terminateNow_course nofun ?_
    rcases h.2 with h | h | h <;> exact State.active_of_eq h nofun
  · rfl

theorem handReport_course (p : Nat) : UnitCourse s (handReport p s) := by
  refine (takeoverTest_course p).trans (UnitCourse.foldl (fun t k => ?_) _ _)
  unfold offerReport
  dsimp only
  split
  · next h => exact completeStep_course h.1
  · rfl

theorem State.awaitsPassage_running {p : Nat} (h : s.awaitsPassage p k = true) : (s.slot k).state = .running := by
  simp only [State.awaitsPassage, Bool.and_eq_true, beq_iff_eq] at h
  exact h.1.1

theorem handPassage_course (p id : Nat) (hr : ∃ r ∈ s.tracker.runs, r.id = id) : UnitCourse s (handPassage p id s) := by
  unfold handPassage
  split
  · split
    · next h => exact completeStep_course (State.awaitsPassage_running h)
    · rfl
  next hnone =>
  split
  · next k hk =>
    have h := List.find?_some hk
    simp only [Bool.and_eq_true, Option.isNone_iff_eq_none] at h
    have running := State.awaitsPassage_running h.1
    have bound : ∃ r ∈ s.tracker.runs, r.id = id ∧ r.bound = none := by
      obtain ⟨x, hx, hid⟩ := hr
      cases hf : s.run id with
      | none => exact absurd (by simpa using hid) (List.find?_eq_none.1 hf x hx)
      | some r =>
        rw [hf, Option.bind_some] at hnone
        exact ⟨r, (s.run_mem hf).1, (s.run_mem hf).2, hnone⟩
    refine (UnitChange.bind h.2 (State.active_of_eq running nofun) bound).course.trans (completeStep_course ?_)
    show ((s.setSlot k { s.slot k with bound := some id }).slot k).state = _
    rw [State.slot_setSlot_same]
    exact running
  · rfl

theorem withdrawOrder_slot (j : SlotId) : (withdrawOrder k s).slot j = s.slot j := State.slot_congr withdrawOrder_seq j

theorem timeoutStep_course (h : (s.slot k).state = .running) : UnitCourse s (timeoutStep k s) := by
  unfold timeoutStep
  split
  · rfl
  · split
    · exact (withdrawOrder_course s k).trans (completeStep_course (by rwa [withdrawOrder_slot]))
    · exact terminateNow_course nofun (State.active_of_eq h nofun)

theorem stepCountdownEnds_course (h : (s.slot k).state = .running) : UnitCourse s (stepCountdownEnds k s) := by
  unfold stepCountdownEnds
  split
  · exact completeStep_course h
  · exact timeoutStep_course h

theorem spacingEnds_course (h : (s.slot k).state = .spacing) : UnitCourse s (spacingEnds k s) := by
  have ha := State.active_of_eq h nofun
  unfold spacingEnds
  split
  · exact terminateNow_course nofun ha
  · exact (s.updSlot_course_active _ ha (by nofun) rfl rfl rfl).trans (startStep_course _ (by simp))

theorem countSlotDown_course {st : SlotState} {f : State → State} (h : (s.slot k).state = st)
    (hf : ∀ t : State, (t.slot k).state = st → UnitCourse t (f t)) : UnitCourse s (countSlotDown k f s) := by
  unfold countSlotDown
  dsimp only
  have key (n : Nat) := s.updSlot_course_same (k := k) (fun r => { r with countdown := n }) rfl rfl rfl rfl
  split
  · rfl
  split
  · exact (key _).trans (hf _ (by simpa using h))
  · exact key _

theorem approachAtTick_course {t : State} (h : (s.slot k).state = .running) (ht : approachAtTick k s = some t) :
    UnitCourse s t ∧ (t.slot k).state = .running := by
  unfold approachAtTick at ht
  split at ht
  · split at ht
    · obtain ⟨course, state⟩ := approachTest_course (State.active_of_eq h nofun) ht
      exact ⟨course, state.trans h⟩
    · cases ht
  · cases ht

theorem tickSlot_course (s : State) (k : SlotId) : UnitCourse s (tickSlot s k) := by
  unfold tickSlot
  split
  · next h =>
    split
    · next t ht =>
      obtain ⟨course, running⟩ := approachAtTick_course h ht
      exact course.trans (completeStep_course running)
    · exact countSlotDown_course h fun _ => stepCountdownEnds_course
  · next h => exact countSlotDown_course h fun _ => spacingEnds_course
  · rfl

theorem tickSlots_course : UnitCourse s (tickSlots s) := by
  unfold tickSlots
  split
  · exact UnitCourse.foldl tickSlot_course _ s
  · rfl

theorem State.stepDue_running {dwell : Bool} (h : s.stepDue k dwell = true) : (s.slot k).state = .running := by
  simp only [State.stepDue, Bool.and_eq_true, beq_iff_eq] at h
  exact h.1.1.2

theorem expireDwell_course : UnitCourse s (expireDwell k s) := by
  unfold expireDwell
  split
  · next h => exact countSlotDown_course (State.stepDue_running h) fun _ => completeStep_course
  · rfl

theorem expireStep_course : UnitCourse s (expireStep k s) := by
  unfold expireStep
  split
  · next h =>
    rw [Bool.and_eq_true] at h
    exact countSlotDown_course (State.stepDue_running h.1) fun _ => timeoutStep_course
  · rfl

theorem expireSpacing_course : UnitCourse s (expireSpacing k s) := by
  unfold expireSpacing
  split
  · next h => exact countSlotDown_course h.2.1 fun _ => spacingEnds_course
  · rfl

/-! ### All slots -/

theorem terminateAll_course {cause : Cause} (hc : cause ≠ .count) : UnitCourse s (terminateAll cause s) := by
  refine UnitCourse.foldl (fun t k => ?_) _ s
  split
  · rfl
  · next h => exact terminateNow_course hc h

theorem releaseValves_slot (j : SlotId) : (releaseValves k s).slot j = s.slot j := rfl

theorem dropTrain_idle : ((dropTrain k s).slot k).state = .idle := by
  unfold dropTrain enterIdle
  rw [releaseValves_slot, State.slot_updSlot_same]

/-- A cause that returns a slot to IDLE from outside its program (R132). -/
def Cause.Drops (c : Cause) : Prop := c = .abort ∨ c = .modeChange ∨ c = .warmRestart

theorem terminateNow_idle {cause : Cause} (hc : cause.Drops) : ((terminateNow k cause s).slot k).state = .idle := by
  unfold terminateNow terminate
  obtain rfl | rfl | rfl := hc <;> exact dropTrain_idle

/-- Where every train is dropped, every slot is IDLE. -/
theorem terminateAll_idle {cause : Cause} (hc : cause.Drops) (s : State) (j : SlotId) :
    ((terminateAll cause s).slot j).state = .idle := by
  have step (t : State) (i : SlotId) :
      ((if (t.slot i).state = .idle then t else terminateNow i cause t).slot j).state =
        if j = i then .idle else (t.slot j).state := by
    split
    · split
      · next e h => exact h ▸ e
      · rfl
    · split
      · next h => exact h ▸ terminateNow_idle hc
      · next h => rw [(terminateNow_sequenced t i cause).slots j h]
  unfold terminateAll slotIds
  simp only [List.foldl_cons, List.foldl_nil, step]
  fin_cases j <;> rfl

end Sys2Proof.Machine
end

section
/-! PROOF. The lifecycle, the requests and the input slot as courses of changes (R95, R174 to R190). -/

namespace Sys2Proof.Machine

open Relation

variable {s : State}

theorem Change.course {s t : State} (h : Change s t) : Course s t := .single h

theorem Course.foldl {α : Type} {f : State → α → State} (hf : ∀ s a, Course s (f s a)) (xs : List α) (s : State) :
    Course s (xs.foldl f s) := by
  induction xs generalizing s with
  | nil => exact .refl
  | cons x xs ih => exact (hf s x).trans (ih _)

/-! ### The mode machine -/

theorem abandonAll_slot_state (k : SlotId) (s : State) : ((abandonAll s).slot k).state = (s.slot k).state := by
  refine foldl_keeps (fun t : State => (t.slot k).state = (s.slot k).state) _ (fun t r h => ?_) _ s rfl
  rw [removeRun_eq_takeOut, State.slot_congr (offer_seq ..), takeOut_slot]
  exact h

theorem resetRecords_course : UnitCourse s (resetRecords s) := by
  have nodes := setNodes_map_course (s := (((s.setFlows (s.tracker.flows.map (fun f => FlowRec.initial f.point))).setDetectors
    (s.matcher.detectors.map (fun d => DetectorRec.initial d.point))).setValves
    (s.interlock.valves.map (fun v => ValveRec.initial v.point)))) (fun r => NodeRec.initial r.node)
  refine (setFlows_map_course s (fun f => FlowRec.initial f.point)).trans ?_
  refine (setDetectors_map_course _ (fun d => DetectorRec.initial d.point)).trans ?_
  refine (setValves_map_course _ (fun v => ValveRec.initial v.point)).trans (nodes.trans ?_)
  exact (UnitChange.pollList (.inl (List.nil_sublist _))).course.trans (UnitChange.scanCountdown 0 _).course

theorem resetRecords_slot (k : SlotId) : (resetRecords s).slot k = s.slot k := rfl

theorem startScan_course : UnitCourse s (startScan s) :=
  (UnitChange.pollList (.inr rfl)).course.trans (UnitChange.scanCountdown _ _).course

theorem setMode_course {m : Mode} (h : m = .guarded ∨ s.mgmt.mode ≠ .guarded ∨ ∀ k, (s.slot k).state = .idle) :
    UnitCourse s (s.setMode m) := (UnitChange.mode h).course

/-- A mode change leaves GUARDED with every slot IDLE (R148, R185). -/
theorem changeMode_course (m : Mode) : UnitCourse s (changeMode m s) := by
  have drops : Cause.Drops .modeChange := .inr (.inl rfl)
  have toMode : UnitCourse s ((if m = .transparent
      then resetRecords (abandonAll (if s.mgmt.mode = .guarded ∨ m = .transparent then terminateAll .modeChange s else s))
      else if s.mgmt.mode = .guarded ∨ m = .transparent then terminateAll .modeChange s else s).setMode m) := by
    split
    · next hm =>
      rw [if_pos (.inr hm)]
      refine (terminateAll_course (cause := .modeChange) nofun).trans ((UnitChange.abandonAll _).course.trans (resetRecords_course.trans ?_))
      refine setMode_course (.inr (.inr fun k => ?_))
      rw [resetRecords_slot, abandonAll_slot_state]
      exact terminateAll_idle drops s k
    · next hm =>
      split
      · exact (terminateAll_course (cause := .modeChange) nofun).trans (setMode_course (.inr (.inr (terminateAll_idle drops s))))
      · next h => exact setMode_course (.inr (.inl fun e => h (.inl e)))
  have scan (t : State) : UnitCourse t (if s.mgmt.mode = .transparent then startScan t else t) := by
    split
    · exact startScan_course
    · exact .refl
  exact (toMode.trans (scan _)).trans (offer_course _ _ _ _ _ _)

/-! ### What serving a request does to the units -/

theorem serveSetMode_course (args : List Byte) : UnitCourse s (serveSetMode args s).state := by
  unfold serveSetMode
  split
  · exact .refl
  split
  · exact .refl
  split
  · exact .refl
  · exact changeMode_course _

theorem serveSetConfig_course (args : List Byte) : UnitCourse s (serveSetConfig args s).state := by
  unfold serveSetConfig
  split
  · exact .refl
  · exact (UnitChange.setConfig _ s).course

theorem serveAckConditions_course (args : List Byte) : UnitCourse s (serveAckConditions args s).state := by
  unfold serveAckConditions
  split
  · exact .refl
  · exact (UnitChange.ackConditions _ s).course

theorem loadShadow_course (t : TableId) {store : Tables → Option Tables}
    (h : ∀ a b, store a = some b → a.ClassesInRange → b.ClassesInRange) : UnitCourse s (loadShadow t store s).state := by
  unfold loadShadow
  split
  · exact .refl
  split
  · exact .refl
  · next sh hsh => exact (UnitChange.shadow (h _ _ hsh)).course

theorem parseClass_inRange {args : List Byte} {c : PigClass} (h : parseClass args = some c) : c.InRange := by
  unfold parseClass at h
  dsimp only at h
  split at h
  · next hr =>
    cases h
    simp only [Bool.and_eq_true, decide_eq_true_eq] at hr
    obtain ⟨⟨⟨⟨⟨⟨⟨h1, h2⟩, h3⟩, -⟩, -⟩, h6⟩, -⟩, -⟩ := hr
    exact ⟨h1, h2, h3, h6⟩
  · cases h

theorem storePoint_classes {args : List Byte} {a b : Tables} (h : storePoint args a = some b) : b.classes = a.classes := by
  unfold storePoint at h
  dsimp only at h
  split at h
  · cases h
  split at h
  · cases h
  · cases h; rfl

theorem storeProgram_classes {args : List Byte} {a b : Tables} (h : storeProgram args a = some b) : b.classes = a.classes := by
  unfold storeProgram at h
  split at h
  · cases h
  · obtain ⟨p, -, rfl⟩ := Option.map_eq_some_iff.1 h; rfl

theorem storeStep_classes {args : List Byte} {a b : Tables} (h : storeStep args a = some b) : b.classes = a.classes := by
  unfold storeStep at h
  split at h
  · cases h
  · obtain ⟨p, -, rfl⟩ := Option.map_eq_some_iff.1 h; rfl

theorem Tables.ClassesInRange.of_classes {a b : Tables} (h : b.classes = a.classes) (ha : a.ClassesInRange) :
    b.ClassesInRange := by unfold Tables.ClassesInRange; rwa [h]

theorem storeClass_inRange {args : List Byte} {a b : Tables} (h : storeClass args a = some b) (ha : a.ClassesInRange) :
    b.ClassesInRange := by
  unfold storeClass at h
  split at h
  · cases h
  · obtain ⟨c, hc, rfl⟩ := Option.map_eq_some_iff.1 h
    refine ⟨by simpa using ha.1, fun d hd => ?_⟩
    obtain hd | hd := List.mem_or_eq_of_mem_set hd
    · exact ha.2 d hd
    · cases hd; exact parseClass_inRange hc

theorem Tables.cleared_inRange (t : TableId) {a : Tables} (ha : a.ClassesInRange) : (a.cleared t).ClassesInRange := by
  cases t
  case classes => exact ⟨rfl, fun c hc => by simp [Tables.cleared, Tables.empty] at hc⟩
  all_goals exact ha

theorem serveLoadPoint_course (args : List Byte) : UnitCourse s (serveLoadPoint args s).state :=
  loadShadow_course _ fun _ _ h => .of_classes (storePoint_classes h)

theorem serveLoadClass_course (args : List Byte) : UnitCourse s (serveLoadClass args s).state :=
  loadShadow_course _ fun _ _ => storeClass_inRange

theorem serveLoadProgram_course (args : List Byte) : UnitCourse s (serveLoadProgram args s).state :=
  loadShadow_course _ fun _ _ h => .of_classes (storeProgram_classes h)

theorem serveLoadStep_course (args : List Byte) : UnitCourse s (serveLoadStep args s).state :=
  loadShadow_course _ fun _ _ h => .of_classes (storeStep_classes h)

theorem serveClearShadow_course (args : List Byte) : UnitCourse s (serveClearShadow args s).state := by
  unfold serveClearShadow
  split
  · exact .refl
  split
  · exact .refl
  · exact (UnitChange.shadow (Tables.cleared_inRange _)).course

theorem serveReadTableRecord_course (args : List Byte) : UnitCourse s (serveReadTableRecord args s).state := by
  unfold serveReadTableRecord
  dsimp only
  split
  · split
    · exact .refl
    · split <;> exact .refl
  · exact .refl

theorem serveLoadWatch_course (args : List Byte) : UnitCourse s (serveLoadWatch args s).state := by
  unfold serveLoadWatch
  split
  · exact .refl
  split
  · exact .refl
  · exact (UnitChange.watch _ s).course

theorem serveReadRun_course (args : List Byte) : UnitCourse s (serveReadRun args s).state := by
  unfold serveReadRun
  dsimp only
  split
  · split
    · exact .refl
    · split <;> exact .refl
  · split <;> exact .refl
  · exact .refl

theorem serveAdoptRun_course (free : s.NoCommitTaken) (args : List Byte) : UnitCourse s (serveAdoptRun args s).state := by
  unfold serveAdoptRun
  dsimp only
  split
  · exact .refl
  split
  · exact .refl
  split
  · exact .refl
  next hc =>
  split
  · exact .refl
  split
  · exact .refl
  next room =>
  refine (UnitChange.adopt ?_ ?_ free).course.trans (offer_course _ _ _ _ _ _)
  · simpa using room
  · simpa [Option.isSome_iff_ne_none] using hc

theorem serveAbandonRun_course (args : List Byte) : UnitCourse s (serveAbandonRun args s).state := by
  unfold serveAbandonRun
  split
  · exact .refl
  split
  · exact .refl
  · next r hr => exact removeRun_course _ r _ _ ⟨r, (s.run_mem hr).1, rfl⟩

/-- A run is changed in place, by what may take its place. -/
theorem MayReplace.updRun_course {r : Run} {f : Run → Run} (hr : s.run r.id = some r) (h : MayReplace s r (f r))
    (hid : ∀ y, (f y).id = y.id) (hb : ∀ y, (f y).bound = y.bound)
    (hc : s.tables.active.ClassesInRange → ∀ y, s.RunInClass y → s.RunInClass (f y)) : UnitCourse s (s.updRun r.id f) := by
  have same (nodup : (s.tracker.runs.map Run.id).Nodup) :
      s.tracker.runs.map (fun y => if y.id = r.id then f y else y) =
        s.tracker.runs.map (fun y => if y.id = r.id then f r else y) := by
    obtain ⟨-, ahead, behind, heq, ha⟩ := exists_split_of_find? hr
    refine List.map_congr_left fun y hy => ?_
    split
    · next e => rw [List.inj_on_of_nodup_map nodup hy (s.run_mem hr).1 e]
    · rfl
  refine (UnitChange.runs (rs := s.tracker.runs.map (fun y => if y.id = r.id then f y else y))
    ⟨?ids, fun _ => ?bound, fun nodup hm ho => ?order, fun hr hall y hy => ?cls⟩).course
  case ids =>
    rw [List.map_map]
    exact List.map_congr_left fun y _ => ite_key Run.id hid (P := fun y => y.id = r.id) y
  case bound =>
    rw [List.map_map]
    refine List.map_congr_left fun y _ => ?_
    simp only [Function.comp_apply]
    split
    · exact hb y
    · rfl
  case order =>
    rw [same nodup]
    exact (h.runsKept hr).inOrder nodup hm ho
  case cls =>
    obtain ⟨z, hz, rfl⟩ := List.mem_map.1 hy
    split
    · exact hc hr z (hall z hz)
    · exact hall z hz

theorem repositioned_mayReplace {r : Run} {p : Nat}
    (ho : s.orderViolation r.id (chainMm s.map p) = false) : MayReplace s r (r.repositioned s.map (s.classOf r.cls) p) where
  id := rfl
  bound := rfl
  inOrder hm _ := by
    simp only [State.orderViolation, Bool.or_eq_false_iff] at ho
    refine ⟨fun l hl _ => ?_, fun f hf _ => ?_, le_rfl, chainMm_le_endMm hm p⟩
    · simpa [hl, Run.repositioned] using ho.1
    · simpa [hf, Run.repositioned] using ho.2
  inClass hc h := by
    obtain ⟨cls, lo, hi, -, -⟩ := h
    have hb := (s.classOf_inRange hc cls).2.2.2
    exact ⟨cls, lo, hi, le_rfl, Nat.mul_le_mul_right _ hb⟩

theorem serveRepositionRun_course (args : List Byte) : UnitCourse s (serveRepositionRun args s).state := by
  unfold serveRepositionRun
  dsimp only
  split
  · exact .refl
  split
  · exact .refl
  next r hr =>
  split
  · exact .refl
  split
  · exact .refl
  next ho =>
  obtain ⟨-, hid⟩ := s.run_mem hr
  rw [← hid] at hr ho
  have place := repositioned_mayReplace (r := r) (p := byteAt args 1) (by simpa using ho)
  refine (place.updRun_course (f := fun y => y.repositioned s.map (s.classOf y.cls) (byteAt args 1)) hr (fun _ => rfl)
    (fun _ => rfl) fun hc y hy => ?_).trans (offer_course _ _ _ _ _ _)
  obtain ⟨cls, lo, hi, -, -⟩ := hy
  exact ⟨cls, lo, hi, le_rfl, Nat.mul_le_mul_right _ (s.classOf_inRange hc cls).2.2.2⟩

/-! ### The slot requests -/

theorem slotRequest_course {takes : SlotState → Bool} {body : SlotId → State → Served}
    (h : ∀ k, takes (s.slot k).state = true → UnitCourse s (body k s).state) (args : List Byte) :
    UnitCourse s (slotRequest takes body args s).state := by
  unfold slotRequest
  split
  · exact .refl
  split
  · next hk => exact h _ hk
  · exact .refl

theorem serveArm_course (free : s.NoCommitTaken) (args : List Byte) : UnitCourse s (serveArm args s).state := by
  unfold serveArm
  split
  · exact .refl
  next mode =>
  split
  · exact .refl
  split
  · exact .refl
  next idle =>
  split
  · exact .refl
  split
  · exact .refl
  next cls =>
  dsimp only
  split
  · refine (reserveValves_course s _ _).trans (UnitChange.arm ?_ ?_ ?_ rfl rfl ?_).course
    · exact not_not.1 idle
    · exact not_not.1 mode
    · exact Option.isSome_iff_ne_none.2 fun e => cls (Option.isNone_iff_eq_none.2 e)
    · exact free
  · exact .refl

theorem SlotState.ne_idle_of_takes {takes : SlotState → Bool} (h : takes .idle = false) {st : SlotState}
    (ht : takes st = true) : st ≠ .idle := by
  rintro rfl
  rw [h] at ht
  cases ht

/-- A slot that takes part in a train enters RUNNING. -/
theorem enterRunning_course {k : SlotId} (f : Slot → Slot) (h : s.Active k) (hs : ∀ r, (f r).state = .running)
    (hb : ∀ r, (f r).bound = r.bound) (hc : ∀ r, (f r).cls = r.cls) (hch : ∀ r, (f r).chain = r.chain) :
    UnitCourse s (s.updSlot k f) ∧ ((s.updSlot k f).slot k).state = .running :=
  ⟨s.updSlot_course_active f h (by rw [hs]; nofun) (hb _) (hc _) (hch _), by rw [State.slot_updSlot_same, hs]⟩

theorem startSlot_course {k : SlotId} (h : s.Active k) : UnitCourse s (startSlot k s) := by
  obtain ⟨course, running⟩ := enterRunning_course (fun r => { r with state := .running, permit := r.permit || r.mode == .permissive }) h
    (fun _ => rfl) (fun _ => rfl) (fun _ => rfl) (fun _ => rfl)
  exact course.trans (startStep_course _ running)

theorem restartStep_course {k : SlotId} (keep : Bool) (h : s.Active k) : UnitCourse s (restartStep keep k s) := by
  unfold restartStep
  obtain ⟨course, running⟩ := enterRunning_course (fun r => { r with state := .running }) h
    (fun _ => rfl) (fun _ => rfl) (fun _ => rfl) (fun _ => rfl)
  cases (s.slot k).step with
  | none => exact .refl
  | some i => exact course.trans (runSteps_course _ _ _ running)

theorem requestEnd_course {k : SlotId} : UnitCourse s (requestEnd k s) := by
  unfold requestEnd
  split
  · next h => exact terminateNow_course nofun (State.active_of_eq h nofun)
  · exact s.updSlot_course_same _ rfl rfl rfl rfl

theorem serveStart_course (args : List Byte) : UnitCourse s (serveStart args s).state :=
  slotRequest_course (fun _ h => startSlot_course (SlotState.ne_idle_of_takes rfl h)) args

theorem serveRetry_course (args : List Byte) : UnitCourse s (serveRetry args s).state :=
  slotRequest_course (fun _ h => restartStep_course _ (SlotState.ne_idle_of_takes (takes := (· == .failed)) rfl h)) args

theorem serveResume_course (args : List Byte) : UnitCourse s (serveResume args s).state := by
  refine slotRequest_course (fun _ h => ?_) args
  split
  · exact restartStep_course _ (SlotState.ne_idle_of_takes (takes := (· == .observe)) rfl h)
  · exact .refl

theorem serveEnd_course (args : List Byte) : UnitCourse s (serveEnd args s).state :=
  slotRequest_course (fun _ _ => requestEnd_course) args

theorem serveAbort_course (args : List Byte) : UnitCourse s (serveAbort args s).state :=
  slotRequest_course (fun _ h => terminateNow_course (cause := .abort) nofun (SlotState.ne_idle_of_takes (takes := (· != .idle)) rfl h)) args

theorem serveSetPermit_course (args : List Byte) : UnitCourse s (serveSetPermit args s).state := by
  unfold serveSetPermit
  split
  · next b _ _ => exact s.updSlot_course_same (fun r => { r with permit := b }) rfl rfl rfl rfl
  · exact .refl

theorem serveLoadChain_course (args : List Byte) : UnitCourse s (serveLoadChain args s).state := by
  unfold serveLoadChain
  split
  · next k chain _ _ =>
    split
    · exact .refl
    next hk =>
    split
    · exact .refl
    next hc =>
    refine s.updSlot_course (fun r => { r with chain := chain })
      ⟨rfl, fun e => absurd e hk, fun _ => hk, .inl rfl, fun ch e => .inr ?_⟩
    have hch : chain = some ch := e
    simpa [hch, Option.isSome_iff_ne_none] using hc
  · exact .refl

theorem serveReadSlot_course (args : List Byte) : UnitCourse s (serveReadSlot args s).state := by
  refine slotRequest_course (fun _ _ => ?_) args
  show UnitCourse s (ite _ _ _)
  split
  · exact (UnitChange.usedFree s).course
  · exact .refl

/-! ### The record requests -/

theorem serveReadValve_course (args : List Byte) : UnitCourse s (serveReadValve args s).state := by
  unfold serveReadValve
  dsimp only
  split
  · exact .refl
  · split <;> exact .refl

theorem serveReadNode_course (args : List Byte) : UnitCourse s (serveReadNode args s).state := by
  unfold serveReadNode
  dsimp only
  split
  · exact .refl
  · split <;> exact .refl

theorem serveReadFlow_course (args : List Byte) : UnitCourse s (serveReadFlow args s).state := by
  unfold serveReadFlow
  dsimp only
  split
  · exact .refl
  · split <;> exact .refl

theorem serveReadLog_course (args : List Byte) : UnitCourse s (serveReadLog args s).state := by
  unfold serveReadLog
  split
  · exact .refl
  · split <;> exact .refl

theorem serveLogResume_course (args : List Byte) : UnitCourse s (serveLogResume args s).state := by
  unfold serveLogResume
  split
  · exact (UnitChange.resumeLog _ s).course
  · exact .refl

/-! ### The input slot -/

theorem State.noCommitTaken_of {v : Service} (h : s.mgmt.service = some v) (hv : v.phase ≠ .commitTaken) : s.NoCommitTaken := by
  intro r e
  rw [h] at e
  cases e
  exact hv rfl

theorem answerRequest_course (r : Request) (status : Nat) (data : List Byte) (restart : Bool) (h : 0 < s.freePlaces) :
    Course s (answerRequest r status data restart s) := (Change.answer h).course

theorem leaveService_course (h : s.NoCommitTaken) : Course s (leaveService s) := (Change.input (.inr h)).course

theorem answerUnknown_course : Course s (answerUnknown s) := by
  unfold answerUnknown
  split
  · next r hr =>
    split
    · next h => exact (answerRequest_course _ _ _ _ h.2).trans (leaveService_course (State.noCommitTaken_of hr nofun))
    · exact .refl
  · exact .refl

theorem settleInput_course : Course s (settleInput s) := answerUnknown_course.trans answerUnknown_course

theorem answerAndLeave_course {r : Request} {status : Nat} {data : List Byte} (hs : s.NoCommitTaken) (hf : 0 < s.freePlaces) :
    Course s (answerAndLeave r status data s) :=
  ((answerRequest_course r status data false hf).trans (leaveService_course hs)).trans settleInput_course

theorem serveRequest_course {code : Nat} {lengthOk : List Byte → Bool} {body : List Byte → State → Served}
    (h : s.NoCommitTaken → ∀ args, UnitCourse s (body args s).state) : Course s (serveRequest code lengthOk body s) := by
  unfold serveRequest
  split
  · next r hr =>
    split
    · next hc =>
      have free := State.noCommitTaken_of hr nofun
      have course : UnitCourse s (if lengthOk r.args then body r.args s else refuse stBadRequest s).state := by
        split
        · exact h free _
        · exact .refl
      refine course.course.trans (answerAndLeave_course (course.portsKept.noCommitTaken free) ?_)
      rw [course.portsKept.freePlaces]
      exact hc.2
    · exact .refl
  · exact .refl

theorem answerCommit_course : Course s (answerCommit s) := by
  unfold answerCommit
  split
  · next h =>
    split
    · next hf => exact answerAndLeave_course (State.noCommitTaken_of h nofun) hf
    · exact .refl
  · exact .refl

theorem intake_course (f : Frame) (hf : 0 < s.freePlaces) : Course s (intake f s) := by
  unfold intake
  dsimp only
  split
  · exact answerRequest_course _ _ _ _ hf
  split
  · exact answerRequest_course _ _ _ _ hf
  · next v hv _ => exact (Change.input (.inl hv.symm)).course
  · next h =>
    refine (Change.input (.inr fun r e => ?_)).course.trans settleInput_course
    rw [h] at e
    cases e

theorem serveRestart_course : Course s (serveRestart s) := by
  unfold serveRestart
  split
  · next r hr =>
    have free := State.noCommitTaken_of hr nofun
    split
    · next hc =>
      split
      · exact (answerRequest_course r stOk [] true hc.2).trans
          (Change.input (s := answerRequest r stOk [] true s) (.inr free)).course
      · exact answerAndLeave_course free hc.2
    · exact .refl
  · exact .refl

theorem serveCommit_course : Course s (serveCommit s) := by
  unfold serveCommit
  split
  · next r hr =>
    have free := State.noCommitTaken_of hr nofun
    split
    · next hc =>
      split
      · unfold examineCommit
        split
        · exact answerAndLeave_course free hc.2
        split
        · exact answerAndLeave_course free hc.2
        · next h => exact (Change.takeCommit h free).course
      · exact answerAndLeave_course free hc.2
    · exact .refl
  · exact .refl

/-! ### Link clear and warm restart -/

theorem loseOrders_course : UnitCourse s (slotIds.foldl (fun s k => if (s.order k).isSome then loseOrder k s else s) s) :=
  UnitCourse.foldl (fun t k => by split; exacts [loseOrder_course t k, .refl]) _ s

/-- The link clear after the ports are emptied: LINK CLEARED and the orders that awaited their places. -/
theorem clearLinks_course_emptied :
    UnitCourse (slotIds.foldl (fun s k => if (s.order k).isSome then loseOrder k s else s) s).emptied (clearLinks s) :=
  (raise_course _ _).trans (UnitCourse.foldl (fun t k => placeAwaiting_course t k) _ _)

theorem clearLinks_course : Course s (clearLinks s) :=
  loseOrders_course.course.trans ((Change.empty _).course.trans clearLinks_course_emptied.course)

theorem clearLinks_freePlaces : (clearLinks s).freePlaces = 4 := by
  rw [clearLinks_course_emptied.portsKept.freePlaces]; rfl

theorem clearLinks_noCommitTaken (h : s.NoCommitTaken) : (clearLinks s).NoCommitTaken :=
  clearLinks_course_emptied.portsKept.noCommitTaken (loseOrders_course.portsKept.noCommitTaken h)

theorem serveLinkClear_course : Course s (serveLinkClear s) := by
  unfold serveLinkClear
  split
  · next r hr =>
    split
    · refine clearLinks_course.trans (answerAndLeave_course (clearLinks_noCommitTaken (State.noCommitTaken_of hr nofun)) ?_)
      rw [clearLinks_freePlaces]; decide
    · exact serveRequest_course fun _ _ => .refl
  · exact .refl

theorem warmRestart_course (straps : BitVec 7) : Course s (warmRestart straps s) :=
  (terminateAll_course (cause := .warmRestart) nofun).course.trans (Change.restart straps _).course

theorem linkClearFromInput_course : Course s (linkClearFromInput s) := by
  unfold linkClearFromInput
  split
  · exact clearLinks_course.trans (warmRestart_course _)
  · exact clearLinks_course.trans settleInput_course

end Sys2Proof.Machine
end

section
/-! PROOF. The telegram path as courses of changes (R79 to R95), and what every command can do: a course of changes, or one
that ends with a telegram that goes out on Port B. -/

namespace Sys2Proof.Machine

open Relation

variable {s : State}

/-! ### Link changes -/

theorem LinkQuiet.of_same {l m : Link} (tx : m.tx = l.tx) (wire : m.wire = l.wire) : LinkQuiet l m :=
  ⟨fun t h => ⟨t, by rwa [← tx], rfl, rfl, rfl⟩, [], by simp [wire]⟩

theorem Link.reply_quiet (r : Reply) (l : Link) : LinkQuiet l (l.reply r) := by
  unfold Link.reply
  split
  · split
    · exact .of_same rfl rfl
    · exact ⟨fun t h => ⟨t, h, rfl, rfl, rfl⟩, [r], rfl⟩
  · exact ⟨fun t h => ⟨t, h, rfl, rfl, rfl⟩, [r], rfl⟩

theorem Link.release_quiet (l : Link) : LinkQuiet l l.release := ⟨nofun, [], by simp [Link.release]⟩

/-- What holds a port goes into another phase; replies owed may go out. -/
theorem LinkQuiet.phase {l m : Link} {t u : Tx} (hl : l.tx = some t) (hm : m.tx = some u) (source : u.source = t.source)
    (frame : u.frame = t.frame) (place : u.placeHeld = t.placeHeld) (wire : ∃ rs : List Reply, m.wire = l.wire ++ rs.map .reply) :
    LinkQuiet l m := by
  refine ⟨fun x hx => ⟨t, hl, ?_⟩, wire⟩
  rw [hm] at hx
  cases hx
  exact ⟨source, frame, place⟩

theorem updLink_course (p : Port) (f : Link → Link) (h : LinkQuiet (s.link p) (f (s.link p))) : Course s (s.updLink p f) := by
  cases p
  · exact (Change.linkA _ s).course
  · exact (Change.linkB h).course

theorem sendReply_course (p : Port) (r : Reply) : Course s (sendReply p r s) := updLink_course p _ (Link.reply_quiet r _)

theorem release_course (p : Port) : Course s (s.updLink p Link.release) := updLink_course p _ (Link.release_quiet _)

/-- A link reply leaves the places of the answer queue. -/
theorem sendReply_freePlaces (p : Port) (r : Reply) : (sendReply p r s).freePlaces = s.freePlaces := by
  cases p
  · rfl
  · have tx : (s.portB.link.reply r).tx = s.portB.link.tx := by unfold Link.reply; split <;> [split; skip] <;> rfl
    show 4 - (s.portA.answers.length + _) = 4 - (s.portA.answers.length + _)
    unfold State.heldPlaces
    rw [show (sendReply .b r s).portB.link.tx = s.portB.link.tx from tx]

/-! ### Receiving -/

theorem badTelegram_course (p : Port) : Course s (badTelegram p s) :=
  (updLink_course p _ (.of_same rfl rfl)).trans (raise_course _ _).course

theorem accept_watch_course (up : Bool) (p : Port) (f : Frame) : Course s (watchTelegram up f (sendReply p .accept s)) :=
  (sendReply_course p .accept).trans (watchTelegram_course _ up f).course

theorem takeOnA_course (f : Frame) (s : State) : Course s (takeOnA f s) := by
  unfold takeOnA
  split
  · exact sendReply_course _ _
  next hf =>
  split
  · split
    · refine (sendReply_course .a .accept).trans (intake_course f ?_)
      rw [sendReply_freePlaces]
      exact Nat.pos_of_ne_zero hf
    · exact sendReply_course _ _
  split
  · next room =>
    refine (accept_watch_course false .a f).trans (Change.down (.inr ?_)).course
    rw [(watchTelegram_course _ false f).portsKept.down]
    simpa [sendReply, State.updLink, downCapacity, upCapacity] using Nat.succ_le_of_lt room
  split
  · exact (accept_watch_course false .a f).trans (raise_course _ _).course
  · exact sendReply_course _ _

theorem examinePassage_course (f : Frame) : UnitCourse s (examinePassage f s) := by
  unfold examinePassage
  split
  · exact .refl
  · next p _ =>
    obtain ⟨course, run⟩ := takePassage_course p (framePayload f) s
    cases hrun : (takePassage p (framePayload f) s).run with
    | none => simpa [hrun] using course
    | some id => simpa [hrun] using course.trans (handPassage_course p id (run id hrun))

theorem examineValveState_course (f : Frame) : UnitCourse s (examineValveState f s) := by
  unfold examineValveState
  split
  · exact .refl
  · exact (takeValveReport_course s _ _).trans (handReport_course _)

theorem examineKind_course (f : Frame) : UnitCourse s (examineKind f s) := by
  unfold examineKind
  dsimp only
  split
  · exact examinePassage_course f
  split
  · exact takeFlowReport_course _ _ _
  split
  · exact examineValveState_course f
  split
  · exact takeNodeState_course _ _ _
  · exact .refl

theorem examine_course (f : Frame) : UnitCourse s (examine f s) := by
  unfold examine
  refine ReflTransGen.trans ?_ (watchTelegram_course _ true f)
  split
  · exact .refl
  · exact (hearNode_course _ _).trans (examineKind_course f)

theorem accept_examine_course (f : Frame) : Course s (examine f (sendReply .b .accept s)) :=
  (sendReply_course .b .accept).trans (examine_course f).course

theorem takeOnB_course (f : Frame) (s : State) : Course s (takeOnB f s) := by
  unfold takeOnB
  split
  · exact accept_examine_course f
  split
  · next room =>
    refine (accept_examine_course f).trans (Change.up (.inr ?_)).course
    rw [(examine_course f).portsKept.up]
    simpa [sendReply, State.updLink, downCapacity, upCapacity] using Nat.succ_le_of_lt room
  split
  · exact (accept_examine_course f).trans (raise_course _ _).course
  · exact sendReply_course _ _

theorem receiveFrame_course (p : Port) (f : Frame) {take : Frame → State → State} (h : ∀ s, Course s (take f s)) :
    Course s (receiveFrame p f take s) := by
  have ends (g : Link → Link) (tx : ∀ l, (g l).tx = l.tx) (wire : ∀ l, (g l).wire = l.wire) : Course s (s.updLink p g) :=
    updLink_course p g (.of_same (tx _) (wire _))
  unfold receiveFrame
  split
  · exact ends _ (fun _ => rfl) (fun _ => rfl)
  · dsimp only
    refine (ends (fun l => { l with receiving := false, abandoned := false }) (fun _ => rfl) (fun _ => rfl)).trans ?_
    split
    · exact badTelegram_course p
    · exact h _

theorem startFrame_course (p : Port) : Course s (startFrame p s) := by
  unfold startFrame
  dsimp only
  refine ReflTransGen.trans ?_ (updLink_course p _ (.of_same rfl rfl))
  split
  · exact badTelegram_course p
  · exact .refl

/-! ### Ends of transmissions -/

theorem transmitA_course (t : Tx) : Course s (transmit .a t s) := (Change.linkA _ s).course

theorem grantA_course : Course s (grantA s) := by
  unfold grantA
  split
  · exact .refl
  split
  · exact transmitA_course _
  · exact (Change.alert none s).course.trans (transmitA_course _)
  · exact transmitA_course _
  · exact .refl

theorem endTransmission_course (p : Port) : Course s (endTransmission p s) := by
  unfold endTransmission
  split
  · next t ht =>
    split
    · exact updLink_course p _ (.phase ht (u := { t with phase := .awaiting }) rfl rfl rfl rfl ⟨_, rfl⟩)
    · exact .refl
  · exact .refl

theorem refuseAttempt_course {p : Port} {t : Tx} (ht : (s.link p).tx = some t) : Course s (refuseAttempt p t s) :=
  updLink_course p _
    (.phase ht (u := { t with phase := .refused, refusals := t.refusals + 1 }) rfl rfl rfl rfl ⟨[], by simp⟩)

theorem setAnswers_tail_course {a : Answer} {rest : List Answer} (h : s.portA.answers = a :: rest) :
    Course s (s.setAnswers rest) := (Change.answers (by simp [h])).course

theorem popAnswer_course : Course s (popAnswer s) := by
  unfold popAnswer
  split
  · next a rest h =>
    split
    · exact (setAnswers_tail_course h).trans (warmRestart_course _)
    · exact setAnswers_tail_course h
  · exact .refl

theorem setUp_tail_course : Course s (s.setUp s.portB.up.tail) := (Change.up (.inl (by simp))).course

theorem setDown_tail_course : Course s (s.setDown s.portA.down.tail) := (Change.down (.inl (by simp))).course

theorem deliver_course (p : Port) (t : Tx) : Course s (deliver p t s) := by
  unfold deliver
  refine (release_course p).trans ?_
  generalize s.updLink p Link.release = s
  dsimp only
  split
  · exact popAnswer_course
  · exact .refl
  · exact setUp_tail_course
  · refine setDown_tail_course.trans ?_
    split
    · exact (deliverOrder_course _ _ _).course
    · exact .refl
  · next k _ =>
    exact UnitCourse.course ((setOrder_course none).trans ((deliverOrder_course _ _ _).trans
      (slotDelivered_course.trans (placeAwaiting_course _ k))))
  · exact .refl

theorem discard_course (p : Port) (t : Tx) : Course s (discard p t s) := by
  unfold discard
  refine ((release_course p).trans (raise_course _ condPortStall).course).trans ?_
  generalize raise condPortStall (s.updLink p Link.release) = s
  dsimp only
  split
  · exact popAnswer_course
  · exact .refl
  · exact setUp_tail_course
  · exact setDown_tail_course
  · next k _ => exact UnitCourse.course ((setOrder_course none).trans ((loseOrder_course _ k).trans (placeAwaiting_course _ k)))
  · exact .refl

theorem takeReply_course (p : Port) (b : ReplyByte) : Course s (takeReply p b s) := by
  unfold takeReply
  split
  · next t ht =>
    split
    · split
      · exact (deliver_course p t).trans settleInput_course
      · exact refuseAttempt_course ht
      · exact .refl
    · exact .refl
  · exact .refl

theorem discardDue_course (p : Port) : Course s (discardDue p s) := by
  unfold discardDue
  split
  · next t _ =>
    split
    · exact (discard_course p t).trans settleInput_course
    · exact .refl
  · exact .refl

/-! ### The second event and its answer -/

theorem tickTracker_course : Course s (tickTracker s) := by
  unfold tickTracker
  refine ((Change.applyCommit s).course.trans (tickClock_course _).course).trans ?_
  dsimp only
  split
  · exact .refl
  · exact UnitCourse.course ((ageFlows_course _).trans (advanceAll_course _))

theorem secondPart_course (s : State) (w : SecondWork) : Course s (secondPart s w) := by
  cases w
  case tracker => exact tickTracker_course
  case holdOff => exact (tickHoldOff_course s).course
  case travel => exact (tickTravel_course s).course
  case scan => exact (tickScan_course s).course
  case slots => exact tickSlots_course.course

theorem secondEvent_course (order : List SecondWork) : Course s (secondEvent order s) :=
  (Course.foldl secondPart_course order s).trans answerCommit_course

theorem onSlot_course {n : Nat} {f : SlotId → State → State} (h : ∀ k, UnitCourse s (f k s)) : Course s (onSlot n f s) := by
  unfold onSlot
  cases slotOfNat n with
  | none => exact .refl
  | some k => exact (h k).course

/-! ### Telegrams on Port B -/

/-- What precedes a telegram on Port B: records, the bookkeeping of the grant, the order in its place. -/
structure Prepared (s u : State) : Prop where
  course : Course s u
  tracker : u.tracker = s.tracker
  tables : u.tables = s.tables
  mode : u.mgmt.mode = s.mgmt.mode
  service : u.mgmt.service = s.mgmt.service
  answers : u.portA.answers = s.portA.answers
  link : u.portB.link = s.portB.link

theorem Prepared.refl (s : State) : Prepared s s := ⟨.refl, rfl, rfl, rfl, rfl, rfl, rfl⟩

theorem Prepared.trans {s t u : State} (h : Prepared s t) (g : Prepared t u) : Prepared s u :=
  ⟨h.course.trans g.course, g.tracker.trans h.tracker, g.tables.trans h.tables, g.mode.trans h.mode,
    g.service.trans h.service, g.answers.trans h.answers, g.link.trans h.link⟩

theorem Prepared.heldPlaces {s u : State} (h : Prepared s u) : u.heldPlaces = s.heldPlaces := by
  unfold State.heldPlaces; rw [h.link]

theorem Prepared.freePlaces {s u : State} (h : Prepared s u) : u.freePlaces = s.freePlaces := by
  unfold State.freePlaces; rw [h.answers, h.heldPlaces]

theorem Prepared.placeForOrder {s u : State} (h : Prepared s u) : u.placeForOrder = s.placeForOrder := by
  unfold State.placeForOrder State.claimed; rw [h.freePlaces, h.service]

theorem Prepared.checks {s u : State} (h : Prepared s u) (f : Frame) : u.checks f = s.checks f := by
  unfold State.checks; rw [h.mode]

theorem State.placeForOrder_free (h : s.placeForOrder = true) : 0 < s.freePlaces :=
  Nat.zero_lt_of_lt (of_decide_eq_true h)

/-- A telegram comes from the down queue or a slot's place, or it is no valve order (R90). -/
def Tx.Sourced (x : Tx) : Prop := x.source = .down ∨ (∃ k, x.source = .slot k) ∨ isFullOrder x.frame = false

/-- A telegram that may go out on Port B: the kind of its source (R90), the place that it holds (R92), and in GUARDED, for a
full valve order, its check (R113). -/
structure Sendable (s : State) (x : Tx) : Prop where
  source : s.SourcesSound → x.Sourced
  place : x.placeHeld = true → s.heldPlaces = 1 ∨ 0 < s.freePlaces
  checked : s.SourcesSound → s.checks x.frame = true → ∃ orig v, Prepared s v ∧ checkOrder orig x.frame v = .forward

/-- What a command can do: a course of changes, or a telegram on Port B after what precedes it. -/
inductive Effect (s t : State) : Prop
  | quiet (h : Course s t)
  | sends {x : Tx} {u : State} (before : Prepared s u) (sendable : Sendable s x) (after : t = transmit .b x u)

theorem Effect.of_eq (h : t = s) : Effect s t := .quiet (h ▸ .refl)

theorem noteGrant_prepared (b : Bool) : Prepared s (noteGrant b s) :=
  ⟨(Change.grant (Nat.zero_le 2)).course, rfl, rfl, rfl, rfl, rfl, rfl⟩

theorem writeForwarded_prepared (orig : Originator) (f : Frame) (logged : Bool) : Prepared s (writeForwarded orig f logged s) := by
  unfold writeForwarded
  split
  · exact ⟨(logForwarded_course _ _ _).course, rfl, rfl, rfl, rfl, rfl, rfl⟩
  · exact .refl s

theorem setOrder_prepared (k : SlotId) (o : Option SlotOrder) : Prepared s (s.setOrder k o) :=
  ⟨(setOrder_course o).course, rfl, rfl, rfl, rfl, rfl, rfl⟩

theorem grantScan_prepared (n : Nat) (rest : List Nat) (h : s.scan.pollList = n :: rest) :
    Prepared s { s.setPollList rest with portB := { s.portB with burst := min 2 (s.portB.burst + 1) } } := by
  have sub : rest.Sublist s.scan.pollList := by rw [h]; exact List.sublist_cons_self _ _
  exact ⟨(UnitChange.pollList (.inl sub)).course.course.trans (Change.grant (Nat.min_le_left 2 _)).course, rfl, rfl, rfl, rfl, rfl,
    rfl⟩

/-- An order of a source that gives orders, once it is checked where a check is due. -/
theorem Sendable.order {s u : State} {x : Tx} (hs : s.SourcesSound → x.Sourced)
    (place : x.placeHeld = true → s.heldPlaces = 1 ∨ 0 < s.freePlaces) (before : Prepared s u)
    (h : s.checks x.frame = true → ∃ orig, checkOrder orig x.frame u = .forward) : Sendable s x :=
  ⟨hs, place, fun _ hc => let ⟨orig, ho⟩ := h hc; ⟨orig, u, before, ho⟩⟩

/-- What held the port may hold it again. -/
theorem Sendable.again {x : Tx} (hx : s.portB.link.tx = some x)
    (h : (x.source = .down ∨ ∃ k, x.source = .slot k) → s.checks x.frame = false) : Sendable s x := by
  refine ⟨fun hs => hs x hx, fun hp => .inl ?_, fun hs hc => ?_⟩
  · simp [State.heldPlaces, hx, hp]
  · have full : isFullOrder x.frame = true := (Bool.and_eq_true _ _ ▸ hc).2
    obtain hd | hk | hf := hs x hx
    · rw [h (.inl hd)] at hc; cases hc
    · rw [h (.inr hk)] at hc; cases hc
    · rw [full] at hf; cases hf

theorem frameKind_mkFrame_poll (n src : Nat) (tag : Byte) (payload : List Byte) :
    frameKind (mkFrame n src kindPoll tag payload) = kindPoll := rfl

theorem Sendable.poll (n : Nat) : Sendable s (Tx.fresh .poll (mkFrame n s.ownNode kindPoll 0#8 [])) := by
  have notOrder : isFullOrder (mkFrame n s.ownNode kindPoll 0#8 []) = false := rfl
  refine ⟨fun _ => .inr (.inr notOrder), nofun, fun _ hc => ?_⟩
  simp [State.checks, Tx.fresh, notOrder] at hc

variable {u : State}

/-- A slot's order goes out after what precedes it. -/
theorem sendSlotOrder_effect {k j : SlotId} {o : SlotOrder} {x : Tx} (before : Prepared s u) (hx : x.source = .slot j)
    (place : x.placeHeld = true → s.heldPlaces = 1 ∨ 0 < s.freePlaces)
    (h : s.checks x.frame = true → ∃ orig, checkOrder orig x.frame u = .forward) : Effect s (sendSlotOrder k o x u) :=
  .sends (before.trans ((writeForwarded_prepared _ _ _).trans (setOrder_prepared _ _)))
    (.order (fun _ => .inr (.inl ⟨j, hx⟩)) place before h) rfl

theorem dropSlotOrder_course (k : SlotId) (o : SlotOrder) (reason run slot : Nat) : Course s (dropSlotOrder k o reason run slot s) :=
  UnitCourse.course ((setOrder_course none).trans ((logRejected_course _ _ _ _ _).trans (placeAwaiting_course _ k)))

theorem grantSlot_effect (k : SlotId) : Effect s (grantSlot k s) := by
  unfold grantSlot
  split
  · exact .quiet .refl
  · next o _ =>
    have before := noteGrant_prepared (s := s) true
    dsimp only
    split
    · split
      · next h => exact sendSlotOrder_effect before rfl nofun fun _ => ⟨_, h⟩
      · exact .quiet (before.course.trans (dropSlotOrder_course _ _ _ _ _))
      · exact .quiet before.course
    · next h =>
      exact sendSlotOrder_effect before rfl nofun fun hc => absurd ((before.checks _).trans hc) h

theorem rejectDown_course (f : Frame) (reason run slot : Nat) (h : s.heldPlaces = 1 ∨ 0 < s.freePlaces) :
    Course s (rejectDown f reason run slot s) :=
  (Change.reject h).course.trans (logRejected_course _ _ _ _ _).course

theorem sendDown_effect {x : Tx} (before : Prepared s u) (hx : s.SourcesSound → x.Sourced)
    (place : x.placeHeld = true → s.heldPlaces = 1 ∨ 0 < s.freePlaces)
    (h : s.checks x.frame = true → ∃ orig, checkOrder orig x.frame u = .forward) : Effect s (sendDown x u) := by
  have sendable := Sendable.order (x := { x with logged := u.loggedAfter x.logged }) hx place before h
  unfold sendDown
  dsimp only
  split
  · exact .sends (before.trans (writeForwarded_prepared _ _ _)) sendable rfl
  · exact .sends before sendable rfl

theorem checkDown_effect {x : Tx} (before : Prepared s u) (hx : s.SourcesSound → x.Sourced)
    (place : s.heldPlaces = 1 ∨ 0 < s.freePlaces) : Effect s (checkDown x u) := by
  unfold checkDown
  split
  · refine .quiet (before.course.trans (rejectDown_course _ _ _ _ ?_))
    rwa [before.heldPlaces, before.freePlaces]
  · next h => exact sendDown_effect before hx (fun _ => place) fun _ => ⟨_, h⟩
  · exact .quiet before.course

theorem grantForward_effect {f : Frame} (h : s.forwardEligible f = true) : Effect s (grantForward f s) := by
  have before := noteGrant_prepared (s := s) false
  unfold grantForward
  dsimp only
  split
  · next hc =>
    rw [before.checks] at hc
    refine checkDown_effect before (fun _ => .inl rfl) (.inr (State.placeForOrder_free ?_))
    simpa [State.forwardEligible, hc] using h
  · next hc => exact sendDown_effect before (fun _ => .inl rfl) nofun fun h => absurd ((before.checks _).trans h) hc

theorem forwardCandidate_eligible {f : Frame} (h : s.forwardCandidate = some f) : s.forwardEligible f = true := by
  unfold State.forwardCandidate at h
  split at h
  · split at h
    · next hf => cases h; exact hf
    · cases h
  · cases h

theorem grantOther_effect : Effect s (grantOther s) := by
  unfold grantOther
  split
  · next k f _ hf =>
    split
    · exact grantSlot_effect k
    · exact grantForward_effect (forwardCandidate_eligible hf)
  · next k _ _ => exact grantSlot_effect k
  · next f _ hf => exact grantForward_effect (forwardCandidate_eligible hf)
  · exact .quiet .refl

theorem grantB_effect : Effect s (grantB s) := by
  unfold grantB
  split
  · exact .quiet .refl
  split
  · next n rest h =>
    split
    · exact .sends (grantScan_prepared n rest h) (.poll n) rfl
    · exact grantOther_effect
  · exact grantOther_effect

theorem repeatSlotOrder_effect {k : SlotId} {t : Tx} (ht : s.portB.link.tx = some t) (hk : t.source = .slot k) :
    Effect s (repeatSlotOrder k t s) := by
  unfold repeatSlotOrder
  split
  · exact .quiet .refl
  split
  · next h =>
    refine sendSlotOrder_effect (.refl s) hk (fun hp => .inl ?_) fun _ => ⟨_, h⟩
    simp [State.heldPlaces, ht, hp]
  · exact .quiet ((release_course .b).trans (dropSlotOrder_course _ _ _ _ _))
  · exact .quiet ((setOrder_course _).course.trans (release_course .b))

theorem repeatDownOrder_effect {t : Tx} (ht : s.portB.link.tx = some t) (hd : t.source = .down) :
    Effect s (repeatDownOrder t s) := by
  unfold repeatDownOrder
  split
  · next h =>
    refine checkDown_effect (.refl s) (fun _ => .inl hd) ?_
    obtain h | h := Bool.or_eq_true _ _ ▸ h
    · exact .inl (by simp [State.heldPlaces, ht, h])
    · exact .inr (State.placeForOrder_free h)
  · exact .quiet (updLink_course .b _
      (.phase ht (u := { t with phase := .waitingPlace }) rfl rfl rfl rfl ⟨[], by simp⟩))

theorem repeatOnB_effect {t : Tx} (ht : s.portB.link.tx = some t) : Effect s (repeatOnB t s) := by
  unfold repeatOnB
  split
  · split
    · next hd => exact repeatDownOrder_effect ht hd
    · next k hk => exact repeatSlotOrder_effect ht hk
    · next hd hk =>
      refine .sends (.refl s) (.again ht ?_) rfl
      rintro (h | ⟨k, h⟩)
      · exact absurd h hd
      · exact absurd h (hk k)
  · next hc => exact .sends (.refl s) (.again ht fun _ => Bool.eq_false_iff.2 hc) rfl

theorem repeatOn_effect (p : Port) : Effect s (repeatOn p s) := by
  unfold repeatOn
  split
  · next t ht =>
    split
    · cases p
      · exact .quiet (transmitA_course t)
      · exact repeatOnB_effect ht
    · exact .quiet .refl
  · exact .quiet .refl

theorem takePlace_effect : Effect s (takePlace s) := by
  unfold takePlace
  split
  · next t ht =>
    split
    · split
      · split
        · next h => exact checkDown_effect (.refl s) (fun hs => hs t ht) (.inr (State.placeForOrder_free h))
        · exact .quiet .refl
      · next hc => exact .sends (.refl s) (.again ht fun _ => Bool.eq_false_iff.2 hc) rfl
    · exact .quiet .refl
  · exact .quiet .refl

/-! ### Every command -/

theorem Effect.live {f : State → State} {t : State} (hf : Effect s (f s)) (h : live f s = .next t) : Effect s t := by
  cases h
  split
  · exact .quiet .refl
  · exact hf

theorem Effect.live_quiet {f : State → State} {t : State} (hf : Course s (f s)) (h : Machine.live f s = .next t) : Effect s t :=
  .live (.quiet hf) h

theorem Effect.ifWf {ok : Bool} {f : State → State} {t : State} (hf : Course s (f s))
    (h : Machine.ifWf ok (Machine.live f s) = .next t) : Effect s t := by
  unfold Machine.ifWf at h
  split at h
  · exact .live_quiet hf h
  · cases h

theorem Effect.request {code : Nat} {lengthOk : List Byte → Bool} {body : List Byte → State → Served} {t : State}
    (hb : s.NoCommitTaken → ∀ args, UnitCourse s (body args s).state) (h : Machine.request code lengthOk body s = .next t) :
    Effect s t := .live_quiet (serveRequest_course hb) h

/-- What every command can do. -/
theorem exec_effect (c : Instr) (s t : State) (h : exec c s = .next t) : Effect s t := by
  cases c with
  | powerOn straps => cases h; exact .quiet (Change.powerOn straps s).course
  | powerLoss => cases h; exact .quiet (UnitChange.lines _ s).course.course
  | warmRestart straps => exact .live_quiet (warmRestart_course straps) h
  | warmRestartInput lowMicros straps =>
    refine .live_quiet (f := fun s => if pulseActs lowMicros then Machine.warmRestart straps s else setStraps straps s) ?_ h
    split
    · exact warmRestart_course straps
    · exact (UnitChange.lines _ s).course.course
  | linkClearInput lowMicros =>
    refine .live_quiet (f := fun s => if pulseActs lowMicros then linkClearFromInput s else s) ?_ h
    split
    · exact linkClearFromInput_course
    · exact .refl
  | portAReceive bytes => exact .live_quiet (receiveFrame_course .a bytes (takeOnA_course bytes)) h
  | portBReceive bytes => exact .live_quiet (receiveFrame_course .b bytes (takeOnB_course bytes)) h
  | portBGrant => exact .live grantB_effect h
  | portAGrant => exact .live_quiet grantA_course h
  | linkReply port reply => exact .live_quiet (takeReply_course port reply) h
  | replyTimeout port => exact .live_quiet (takeReply_course port .wait) h
  | repeatTelegram port => exact .live (repeatOn_effect port) h
  | repeatPlaceTaken => exact .live takePlace_effect h
  | telegramDiscard port => exact .live_quiet (discardDue_course port) h
  | slotOrderPlaced slot => exact .ifWf (onSlot_course fun k => placeAwaiting_course s k) h
  | secondEvent order => exact .ifWf (secondEvent_course order) h
  | commitAnswer => exact .live_quiet answerCommit_course h
  | flowStale point => exact .ifWf (expireFlow_course s point).course h
  | stall run => exact .ifWf (stallRun_course run s).course h
  | holdOffExpiry point => exact .ifWf (expireHoldOff_course s point).course h
  | valveMismatch point => exact .ifWf (expireValve_course s point).course h
  | roundStart => exact .live_quiet (expireScan_course s).course h
  | dwellEnd slot => exact .ifWf (onSlot_course fun _ => expireDwell_course) h
  | stepTimeout slot => exact .ifWf (onSlot_course fun _ => expireStep_course) h
  | spacingEnd slot => exact .ifWf (onSlot_course fun _ => expireSpacing_course) h
  | readStatus => exact .request (fun _ _ => .refl) h
  | setMode => exact .request (fun _ => serveSetMode_course) h
  | setConfig => exact .request (fun _ => serveSetConfig_course) h
  | setTime => exact .request (fun _ _ => (UnitChange.clock _ s).course) h
  | ackConditions => exact .request (fun _ => serveAckConditions_course) h
  | linkClear => exact .live_quiet serveLinkClear_course h
  | restart => exact .live_quiet serveRestart_course h
  | loadPoint => exact .request (fun _ => serveLoadPoint_course) h
  | loadClass => exact .request (fun _ => serveLoadClass_course) h
  | loadProgram => exact .request (fun _ => serveLoadProgram_course) h
  | loadStep => exact .request (fun _ => serveLoadStep_course) h
  | clearShadow => exact .request (fun _ => serveClearShadow_course) h
  | commit => exact .live_quiet serveCommit_course h
  | readTableRecord => exact .request (fun _ => serveReadTableRecord_course) h
  | readRun => exact .request (fun _ => serveReadRun_course) h
  | adoptRun => exact .request serveAdoptRun_course h
  | abandonRun => exact .request (fun _ => serveAbandonRun_course) h
  | repositionRun => exact .request (fun _ => serveRepositionRun_course) h
  | arm => exact .request serveArm_course h
  | start => exact .request (fun _ => serveStart_course) h
  | setPermit => exact .request (fun _ => serveSetPermit_course) h
  | endTrain => exact .request (fun _ => serveEnd_course) h
  | abort => exact .request (fun _ => serveAbort_course) h
  | resume => exact .request (fun _ => serveResume_course) h
  | retry => exact .request (fun _ => serveRetry_course) h
  | loadChain => exact .request (fun _ => serveLoadChain_course) h
  | readSlot => exact .request (fun _ => serveReadSlot_course) h
  | readValve => exact .request (fun _ => serveReadValve_course) h
  | readNode => exact .request (fun _ => serveReadNode_course) h
  | readFlow => exact .request (fun _ => serveReadFlow_course) h
  | loadWatch => exact .request (fun _ => serveLoadWatch_course) h
  | readLog => exact .request (fun _ => serveReadLog_course) h
  | logResume => exact .request (fun _ => serveLogResume_course) h
  | frameStart port => exact .live_quiet (startFrame_course port) h
  | transmissionEnd port => exact .live_quiet (endTransmission_course port) h

/-- An invariant of every change and of every telegram on Port B is an invariant of every command. -/
theorem exec_keeps {P : State → Prop} (change : ∀ s t, Change s t → P s → P t)
    (send : ∀ s (l : Link), P s → P (s.setLink .b l)) {c : Instr} {s t : State} (hs : P s) (h : exec c s = .next t) : P t := by
  obtain hq | ⟨before, -, rfl⟩ := exec_effect c s t h
  · exact hq.keeps change hs
  · exact send _ _ (before.course.keeps change hs)

end Sys2Proof.Machine
end

section
/-! PROOF. The invariants of the ports, the records and the log (O52, O53, O58, O59), each by the changes that a command is
made of. -/

namespace Sys2Proof.Machine

open Relation

variable {s t : State}

/-! ### Changes of more than one unit -/

theorem clearBindingTo_eq (id : Nat) (s : State) : clearBindingTo id s = { s with seq := (clearBindingTo id s).seq } := by
  refine foldl_keeps (fun u : State => u = { s with seq := u.seq }) _ (fun u k hu => ?_) _ s rfl
  split
  · rw [hu]; rfl
  · exact hu

/-- The tracker after a run was taken out. -/
def Tracker.without (t : Tracker) (w : WayOut) (id : Nat) : Tracker :=
  { t with
    runs := t.runs.filter (fun x => x.id != id)
    received := if w = .received then t.received + 1#32 else t.received
    exited := if w = .exited then t.exited + 1#32 else t.exited
    abandoned := if w = .abandoned then t.abandoned + 1#32 else t.abandoned }

theorem takeOut_eq (w : WayOut) (id : Nat) (s : State) :
    takeOut w id s = { s with tracker := s.tracker.without w id, seq := (takeOut w id s).seq } := by
  unfold takeOut
  rw [clearBindingTo_eq]
  cases w <;> rfl

/-- The run table is emptied by taking the runs out, each with its record. -/
theorem abandonAll_keeps {P : State → Prop} (out : ∀ t id, P t → P (takeOut .abandoned id t))
    (report : ∀ t kind run point slot detail, P t → P (offer kind run point slot detail t)) (hs : P s) : P (abandonAll s) :=
  foldl_keeps P _ (fun t r ht => report _ _ _ _ _ _ (out t r.id ht)) _ s hs

/-- A commit is applied by installing a table that passes its validation, and finished. -/
theorem applyCommit_keeps {P : State → Prop} (finish : ∀ t status data, P t → P (finishCommit status data t))
    (install : ∀ t, s.tables.pendingCommit = some t → s.commitError t = none → P (installTable t s)) (hs : P s) :
    P (applyCommit s) := by
  unfold applyCommit
  split
  · exact hs
  split
  · exact finish _ _ _ hs
  · next hp _ he => exact finish _ _ _ (install _ hp he)

/-! ### Queues (O52) -/

theorem heldPlaces_le_one : s.heldPlaces ≤ 1 := by
  unfold State.heldPlaces
  split
  · split <;> decide
  · decide

theorem LinkQuiet.heldPlaces_le {l : Link} (h : LinkQuiet s.portB.link l) : (s.setLink .b l).heldPlaces ≤ s.heldPlaces := by
  unfold State.heldPlaces
  cases hl : l.tx with
  | none => simp [hl, State.setLink]
  | some t =>
    obtain ⟨u, hu, -, -, hp⟩ := h.tx t hl
    simp [hl, hu, hp, State.setLink]

theorem PortsKept.queuesBounded (h : PortsKept s t) (hs : s.QueuesBounded) : t.QueuesBounded := by
  unfold State.QueuesBounded State.heldPlaces
  rw [h.down, h.up, h.answers, h.linkB, h.burst]
  exact hs

theorem Change.queuesBounded (h : Change s t) (hs : s.QueuesBounded) : t.QueuesBounded := by
  obtain ⟨down, up, answers, burst⟩ := hs
  cases h with
  | unit h => exact h.portsKept.queuesBounded ⟨down, up, answers, burst⟩
  | alert a => exact ⟨down, up, answers, burst⟩
  | linkA l => exact ⟨down, up, answers, burst⟩
  | linkB h => exact ⟨down, up, (Nat.add_le_add_left h.heldPlaces_le _).trans answers, burst⟩
  | @answer a _ h =>
    have held : (s.setAnswers (s.portA.answers ++ [a])).heldPlaces = s.heldPlaces := rfl
    unfold State.freePlaces at h
    refine ⟨down, up, ?_, burst⟩
    simp only [State.setAnswers_portA, List.length_append, List.length_singleton, held]
    omega
  | answers h => exact ⟨down, up, (Nat.add_le_add_right h _).trans answers, burst⟩
  | down h => exact ⟨h.elim (·.trans down) id, up, answers, burst⟩
  | up h => exact ⟨down, h.elim (·.trans up) id, answers, burst⟩
  | @reject a _ h =>
    have held : (s.rejected a).heldPlaces = 0 := rfl
    have hd : (s.rejected a).portA.down = s.portA.down.tail := rfl
    have ha : (s.rejected a).portA.answers = s.portA.answers ++ [a] := rfl
    unfold State.freePlaces at h
    refine ⟨?_, up, ?_, burst⟩
    · rw [hd, List.length_tail]; omega
    · rw [ha, held, List.length_append, List.length_singleton]; omega
  | grant h => exact ⟨down, up, answers, h⟩
  | empty => exact ⟨Nat.zero_le _, Nat.zero_le _, Nat.zero_le _, Nat.zero_le _⟩
  | input h => exact ⟨down, up, answers, burst⟩
  | takeCommit h free => exact ⟨down, up, answers, burst⟩
  | applyCommit =>
    refine applyCommit_keeps (P := State.QueuesBounded) (fun _ _ _ h => h) (fun t _ _ => ?_) ⟨down, up, answers, burst⟩
    cases t <;> exact ⟨down, up, answers, burst⟩
  | restart => exact ⟨Nat.zero_le _, Nat.zero_le _, Nat.zero_le _, Nat.zero_le _⟩
  | powerOn => exact ⟨Nat.zero_le _, Nat.zero_le _, Nat.zero_le _, Nat.zero_le _⟩

theorem Sendable.queuesBounded {x : Tx} (h : Sendable s x) (before : Prepared s t) (ht : t.QueuesBounded) :
    (transmit .b x t).QueuesBounded := by
  obtain ⟨down, up, answers, burst⟩ := ht
  refine ⟨down, up, ?_, burst⟩
  have held : (transmit .b x t).heldPlaces = if x.placeHeld then 1 else 0 := rfl
  have same : (transmit .b x t).portA.answers = t.portA.answers := rfl
  rw [held, same]
  split
  · next hp =>
    have place := h.place hp
    rw [← before.heldPlaces, ← before.freePlaces] at place
    unfold State.freePlaces at place
    omega
  · omega

/-- Settles O52: every change keeps the bounds, and a telegram that holds a place of the answer queue takes a free one. -/
theorem queuesStayBounded : Obligations.QueuesStayBounded := by
  intro c s t hs h
  obtain hq | ⟨before, sendable, rfl⟩ := exec_effect c s t h
  · exact hq.keeps (fun _ _ => Change.queuesBounded) hs
  · exact sendable.queuesBounded before (before.course.keeps (fun _ _ => Change.queuesBounded) hs)

/-! ### The zone (O53) -/

theorem Change.sourcesSound (h : Change s t) (hs : s.SourcesSound) : t.SourcesSound := by
  cases h with
  | unit h => unfold State.SourcesSound; rw [h.portsKept.linkB]; exact hs
  | linkB h =>
    intro x hx
    obtain ⟨u, hu, source, frame, -⟩ := h.tx x hx
    rw [source, frame]
    exact hs u hu
  | reject h => exact nofun
  | empty => exact nofun
  | applyCommit =>
    refine applyCommit_keeps (P := State.SourcesSound) (fun _ _ _ h => h) (fun t _ _ => ?_) hs
    cases t <;> exact hs
  | restart => exact nofun
  | powerOn => exact nofun
  | _ => exact hs

/-- The wire of Port B grows by link replies alone. -/
def WireQuiet (s t : State) : Prop := ∃ rs : List Reply, t.portB.link.wire = s.portB.link.wire ++ rs.map .reply

theorem WireQuiet.of_eq (h : t.portB.link.wire = s.portB.link.wire) : WireQuiet s t := ⟨[], by simp [h]⟩

theorem Link.abandon_wire (l : Link) : l.abandon.wire = l.wire ++ l.deferred.map .reply := rfl

theorem Change.wireQuiet (h : Change s t) : WireQuiet s t := by
  cases h with
  | unit h => exact .of_eq (by rw [h.portsKept.linkB])
  | linkB h => exact h.wire
  | empty => exact ⟨_, s.portB.link.abandon_wire⟩
  | restart => exact ⟨_, s.portB.link.abandon_wire⟩
  | applyCommit =>
    refine applyCommit_keeps (P := WireQuiet s) (fun _ _ _ h => h) (fun t _ _ => ?_) (.of_eq rfl)
    cases t <;> exact .of_eq rfl
  | _ => exact .of_eq rfl

theorem Course.wireQuiet (h : Course s t) : WireQuiet s t := by
  induction h with
  | refl => exact .of_eq rfl
  | tail _ hc ih =>
    obtain ⟨rs, hrs⟩ := ih
    obtain ⟨qs, hqs⟩ := hc.wireQuiet
    exact ⟨rs ++ qs, by rw [hqs, hrs, List.map_append, List.append_assoc]⟩

/-- A CLOSE that passes its check at a MAINLINE valve finds the zone empty (R113). -/
theorem zone_free_of_forward {orig : Originator} {f : Frame} {p : Nat} {part : ValvePart}
    (h : checkOrder orig f s = .forward) (ha : orderAction f = actionClose) (hp : valveOfNode s.map (frameDest f) = some p)
    (hpart : valvePart s.map p = some part) (role : part.role = .mainline) (r : Run) (hr : r ∈ s.tracker.runs) :
    ¬ inZone s.map p part r.position = true := by
  intro zone
  have hstop : ¬ (actionClose ≠ actionOpen ∧ actionClose ≠ actionClose ∧ actionClose ≠ actionStop) := by decide
  unfold checkOrder at h
  simp only [ha, hp, hpart] at h
  rw [if_neg hstop] at h
  rw [if_neg (show actionClose ≠ actionStop by decide)] at h
  split at h
  · cases h
  split at h
  · cases h
  · next v _ e =>
    cases e
    rw [if_pos ⟨trivial, role⟩] at h
    split at h
    · next free => exact absurd zone (List.find?_eq_none.1 free r hr)
    · split at h <;> cases h
  · next e => cases e

/-- Settles O53: a telegram that goes out in GUARDED and is a full valve order has passed its check on the runs that stand. -/
theorem noCloseIntoAnOccupiedZone : Obligations.NoCloseIntoAnOccupiedZone := by
  intro c s t hs h
  obtain hq | ⟨before, sendable, rfl⟩ := exec_effect c s t h
  · refine ⟨hq.keeps (fun _ _ => Change.sourcesSound) hs, fun _ f hf => ?_⟩
    obtain ⟨rs, hrs⟩ := hq.wireQuiet
    rw [hrs, List.drop_left] at hf
    obtain ⟨_, -, he⟩ := List.mem_map.1 hf
    cases he
  · next x u =>
    constructor
    · intro y hy
      cases hy
      exact sendable.source hs
    · intro mode f hf kind length action p part hp hpart role r hr zone
      have wire : (transmit .b x u).portB.link.wire = s.portB.link.wire ++ [.telegram x.frame] := by rw [← before.link]; rfl
      rw [wire, List.drop_left, List.mem_singleton] at hf
      cases hf
      have full : isFullOrder x.frame = true := by simp [isFullOrder, kind, length, kindValveOrder]
      obtain ⟨orig, v, hv, check⟩ := sendable.checked hs (by simp [State.checks, mode, full])
      have map : v.map = s.map := by unfold State.map; rw [hv.tables]
      refine zone_free_of_forward check action (map ▸ hp) (map ▸ hpart) role r (by rwa [hv.tracker]) ?_
      rw [map]
      exact inZone_iff.2 zone

end Sys2Proof.Machine
end

section
/-! PROOF. The records of the line and the log under every change (O58, O59). -/

namespace Sys2Proof.Machine

open Relation

variable {s t : State}

/-! ### Records of the map (O58) -/

/-- The supervised nodes are distinct (R6). -/
theorem supervisedNodes_nodup (m : List Point) : (supervisedNodes m).Nodup := by
  refine foldl_keeps List.Nodup _ (fun acc n h => ?_) _ [] List.nodup_nil
  split
  · exact h
  · next hn => exact List.nodup_append.2 ⟨h, List.nodup_singleton n, by simpa using fun a ha e => hn (by simpa using e ▸ ha)⟩

theorem rebuildDerived_recordsFollowMap (s : State) : (rebuildDerived s).RecordsFollowMap := by
  refine ⟨?_, ?_, ?_, ?_, List.nodup_nil, nofun⟩
  all_goals exact (List.map_map ..).trans (List.map_id _)

theorem State.RecordsFollowMap.of_same (hs : s.RecordsFollowMap) (map : t.map = s.map)
    (valves : t.interlock.valves.map ValveRec.point = s.interlock.valves.map ValveRec.point)
    (detectors : t.matcher.detectors.map DetectorRec.point = s.matcher.detectors.map DetectorRec.point)
    (flows : t.tracker.flows.map FlowRec.point = s.tracker.flows.map FlowRec.point)
    (nodes : t.scan.nodes.map NodeRec.node = s.scan.nodes.map NodeRec.node) (poll : t.scan.pollList = s.scan.pollList) :
    t.RecordsFollowMap := by
  unfold State.RecordsFollowMap
  rw [map, valves, detectors, flows, nodes, poll]
  exact hs

theorem UnitChange.recordsFollowMap (h : UnitChange s t) (hs : s.RecordsFollowMap) : t.RecordsFollowMap := by
  cases h with
  | pollList h =>
    obtain ⟨valves, detectors, flows, nodes, nodup, within⟩ := hs
    refine ⟨valves, detectors, flows, nodes, ?_⟩
    obtain h | rfl := h
    · exact ⟨nodup.sublist h, fun n hn => within n (h.subset hn)⟩
    · show (s.scan.nodes.map NodeRec.node).Nodup ∧ ∀ n ∈ s.scan.nodes.map NodeRec.node, _
      rw [nodes]
      exact ⟨supervisedNodes_nodup _, fun _ => id⟩
  | nodes h => exact hs.of_same rfl rfl rfl rfl h rfl
  | valves h => exact hs.of_same rfl h rfl rfl rfl rfl
  | detectors h => exact hs.of_same rfl rfl h rfl rfl rfl
  | flows h => exact hs.of_same rfl rfl rfl h rfl rfl
  | takeOut => rw [takeOut_eq]; exact hs
  | abandonAll =>
    exact abandonAll_keeps (P := State.RecordsFollowMap) (fun u id hu => by rw [takeOut_eq]; exact hu) (fun _ _ _ _ _ _ => id) hs
  | unbind => rw [unbindSlot_eq]; exact hs
  | _ => exact hs

theorem Change.recordsFollowMap (h : Change s t) (hs : s.RecordsFollowMap) : t.RecordsFollowMap := by
  cases h with
  | unit h => exact h.recordsFollowMap hs
  | applyCommit =>
    refine applyCommit_keeps (P := State.RecordsFollowMap) (fun _ _ _ h => h) (fun t _ _ => ?_) hs
    cases t
    · exact rebuildDerived_recordsFollowMap _
    · exact hs
    · exact hs
  | restart => exact rebuildDerived_recordsFollowMap _
  | powerOn => exact ⟨rfl, rfl, rfl, rfl, List.nodup_nil, nofun⟩
  | _ => exact hs

/-- Settles O58: every change keeps the records to the points of the map, or rebuilds them from it. -/
theorem recordsStayMapped : Obligations.RecordsStayMapped := by
  intro c s t
  exact exec_keeps (P := State.RecordsFollowMap) (fun _ _ => Change.recordsFollowMap) fun _ _ => id

/-! ### The log (O59) -/

/-- The log's circles are sound, and hold what this log mode keeps. -/
def EventLog.SoundFor (mode : LogMode) (g : EventLog) : Prop :=
  g.places.length = 256 ∧ g.lower.Sound 128 ∧ g.upper.Sound 128 ∧ g.whole.Sound 256 ∧
  (mode = .mixed → g.HoldsClass 0 g.lower true ∧ g.HoldsClass 128 g.upper false) ∧
  (mode = .track → g.HoldsClass 0 g.whole true) ∧ (mode = .traffic → g.HoldsClass 0 g.whole false)

theorem State.logSound_iff : s.LogSound ↔ s.log.SoundFor s.mgmt.config.logMode := .rfl

theorem Circle.Sound.empty {cap : Nat} (h : 0 < cap) : (⟨0, 0⟩ : Circle).Sound cap := ⟨h, Nat.zero_le _, fun _ => rfl⟩

/-- Without counted records a log is sound for every mode. -/
theorem EventLog.SoundFor.of_empty {mode : LogMode} {g : EventLog} (length : g.places.length = 256) (lower : g.lower = ⟨0, 0⟩)
    (upper : g.upper = ⟨0, 0⟩) (whole : g.whole = ⟨0, 0⟩) : g.SoundFor mode := by
  unfold EventLog.SoundFor
  rw [lower, upper, whole]
  exact ⟨length, .empty (by decide), .empty (by decide), .empty (by decide), fun _ => ⟨nofun, nofun⟩, fun _ => nofun, fun _ => nofun⟩

theorem EventLog.SoundFor.emptied {mode mode' : LogMode} {g : EventLog} (h : g.SoundFor mode) : g.emptied.SoundFor mode' :=
  .of_empty h.1 rfl rfl rfl

/-- The circle in which a record is kept holds its class on. -/
theorem EventLog.HoldsClass.next {g : EventLog} {base cap : Nat} {c : Circle} {r : LogRecord} {h : EventLog}
    (hc : g.HoldsClass base c r.kind.isTrack) (sound : c.Sound cap) (room : base + cap ≤ g.places.length)
    (places : h.places = g.places.set (base + c.write) (some r)) : h.HoldsClass base (c.next cap) r.kind.isTrack := by
  obtain ⟨write, -, follows⟩ := sound
  intro i hi
  have inside : base + c.write < g.places.length := by omega
  rw [places]
  by_cases hw : i = c.write
  · subst hw
    exact ⟨r, by simp [List.getD, inside], rfl⟩
  · have before : i < c.valid := by
      unfold Circle.next at hi
      dsimp only at hi
      split at hi
      · next h => have := follows h; omega
      · exact hi
    obtain ⟨q, hq, hk⟩ := hc i before
    refine ⟨q, ?_, hk⟩
    rwa [List.getD, List.getElem?_set_ne (by omega)]

/-- A circle that shares no place with the one in which a record is kept holds its class on. -/
theorem EventLog.HoldsClass.apart {g h : EventLog} {base w : Nat} {c : Circle} {b : Bool} {x : Option LogRecord}
    (hc : g.HoldsClass base c b) (places : h.places = g.places.set w x) (apart : ∀ i, i < c.valid → base + i ≠ w) :
    h.HoldsClass base c b := by
  intro i hi
  obtain ⟨q, hq, hk⟩ := hc i hi
  refine ⟨q, ?_, hk⟩
  rwa [places, List.getD, List.getElem?_set_ne (apart i hi).symm]

theorem EventLog.SoundFor.offer {mode : LogMode} {g : EventLog} (h : g.SoundFor mode) (r : LogRecord) :
    (g.offer mode r).SoundFor mode := by
  obtain ⟨length, lower, upper, whole, mixed, track, traffic⟩ := h
  obtain e | ⟨rfl, kind, -, e⟩ | ⟨rfl, kind, -, e⟩ | ⟨kind, -, e⟩ := g.offer_cases mode r <;> rw [e]
  · exact ⟨length, lower, upper, whole, mixed, track, traffic⟩
  · obtain ⟨low, high⟩ := mixed rfl
    refine ⟨by simpa using length, lower.next, upper, whole, fun _ => ⟨?_, ?_⟩, nofun, nofun⟩
    · rw [← kind] at low ⊢
      exact low.next lower (by omega) (by simp)
    · exact high.apart rfl fun i _ => by have := lower.1; omega
  · obtain ⟨low, high⟩ := mixed rfl
    refine ⟨by simpa using length, lower, upper.next, whole, fun _ => ⟨?_, ?_⟩, nofun, nofun⟩
    · exact low.apart rfl fun i hi => by have := lower.2.1; omega
    · rw [← kind] at high ⊢
      exact high.next upper (by omega) rfl
  · refine ⟨by simpa using length, lower, upper, whole.next, ?_, fun hm => ?_, fun hm => ?_⟩
    · rintro rfl
      obtain ⟨e, -⟩ | ⟨e, -⟩ := kind <;> cases e
    · subst hm
      obtain ⟨-, kind⟩ | ⟨e, -⟩ := kind
      · have hc := track rfl
        rw [← kind] at hc ⊢
        exact hc.next whole (by omega) (by simp)
      · cases e
    · subst hm
      obtain ⟨e, -⟩ | ⟨-, kind⟩ := kind
      · cases e
      · have hc := traffic rfl
        rw [← kind] at hc ⊢
        exact hc.next whole (by omega) (by simp)

theorem offer_logSound (kind : LogKind) (run point slot detail : Nat) (hs : s.LogSound) :
    (offer kind run point slot detail s).LogSound := EventLog.SoundFor.offer hs _

theorem UnitChange.logSound (h : UnitChange s t) (hs : s.LogSound) : t.LogSound := by
  cases h with
  | offer kind run point slot detail => exact offer_logSound kind run point slot detail hs
  | resumeLog empty =>
    cases empty
    · exact hs
    · exact (State.logSound_iff.1 hs).emptied (mode' := s.mgmt.config.logMode)
  | setConfig c =>
    rw [State.logSound_iff] at hs ⊢
    show EventLog.SoundFor c.logMode (if _ then _ else _)
    split
    · next h => rwa [h]
    · exact hs.emptied
  | takeOut => rw [takeOut_eq]; exact hs
  | abandonAll =>
    exact abandonAll_keeps (P := State.LogSound) (fun u id hu => by rw [takeOut_eq]; exact hu)
      (fun _ kind run point slot detail => offer_logSound kind run point slot detail) hs
  | unbind => rw [unbindSlot_eq]; exact hs
  | _ => exact hs

theorem Change.logSound (h : Change s t) (hs : s.LogSound) : t.LogSound := by
  cases h with
  | unit h => exact h.logSound hs
  | applyCommit =>
    refine applyCommit_keeps (P := State.LogSound) (fun _ _ _ h => h) (fun t _ _ => ?_) hs
    cases t <;> exact hs
  | powerOn => exact EventLog.SoundFor.of_empty (List.length_replicate ..) rfl rfl rfl
  | _ => exact hs

/-- Settles O59: a record is kept in the circle of its class, and a new log mode finds no counted record. -/
theorem logStaysSound : Obligations.LogStaysSound := by
  intro c s t
  exact exec_keeps (P := State.LogSound) (fun _ _ => Change.logSound) fun _ _ => id

end Sys2Proof.Machine
end

section
/-! PROOF. The run table's count and the bindings under every change (O54, O57). -/

namespace Sys2Proof.Machine

open Relation

variable {s t : State}

/-! ### Runs that leave and enter -/

/-- The run table is emptied from its head, as long as the ids differ. -/
theorem abandonAll_induct {P : State → Prop} (nodup : ∀ t, P t → (t.tracker.runs.map Run.id).Nodup)
    (out : ∀ t id, P t → (∃ r ∈ t.tracker.runs, r.id = id) → P (takeOut .abandoned id t))
    (report : ∀ t kind run point slot detail, P t → P (offer kind run point slot detail t)) (hs : P s) : P (abandonAll s) := by
  suffices ∀ rs t, t.tracker.runs = rs → P t → P (rs.foldl (fun s r => removeRun .abandoned r r.lastFix 1 s) t) from
    this _ s rfl hs
  intro rs
  induction rs with
  | nil => exact fun _ _ ht => ht
  | cons r rs ih =>
    intro t hrs ht
    refine ih _ ?_ (report _ _ _ _ _ _ (out t r.id ht ⟨r, by rw [hrs]; exact List.mem_cons_self, rfl⟩))
    have distinct := nodup t ht
    rw [hrs, List.map_cons, List.nodup_cons] at distinct
    show (takeOut .abandoned r.id t).tracker.runs = rs
    rw [takeOut_eq]
    show t.tracker.runs.filter _ = rs
    rw [hrs, List.filter_cons_of_neg (by simp), List.filter_eq_self]
    intro x hx
    have apart : x.id ≠ r.id := fun e => distinct.1 (e ▸ List.mem_map_of_mem hx)
    simpa using apart

/-- The id that the next run takes is free and from 1 to 255 (R29). -/
theorem nextRunId_spec (hl : s.tracker.lastId ≤ 255) (room : s.hasRoom = true) :
    1 ≤ s.nextRunId ∧ s.nextRunId ≤ 255 ∧ s.nextRunId ∉ s.tracker.runs.map Run.id := by
  have few : (s.tracker.runs.map Run.id).length < 255 := by
    have : s.tracker.runs.length < 16 := of_decide_eq_true room
    rw [List.length_map]; omega
  obtain ⟨d, -, he, free, -⟩ := freeIdFrom_spec 255 s.tracker.lastId _ hl (exists_free_id s.tracker.lastId 255 _ few (by decide))
  have hid : s.nextRunId = (s.tracker.lastId + d) % 255 + 1 := he
  rw [hid]
  exact ⟨by omega, by omega, free⟩

/-! ### The count of runs (O54) -/

theorem State.RunsCounted.of_same (hs : s.RunsCounted) (ids : t.tracker.runs.map Run.id = s.tracker.runs.map Run.id)
    (lastId : t.tracker.lastId = s.tracker.lastId) (inserted : t.tracker.inserted = s.tracker.inserted)
    (received : t.tracker.received = s.tracker.received) (exited : t.tracker.exited = s.tracker.exited)
    (abandoned : t.tracker.abandoned = s.tracker.abandoned) : t.RunsCounted := by
  have length : t.tracker.runs.length = s.tracker.runs.length := by simpa using congrArg List.length ids
  obtain ⟨nodup, few, last, range, count⟩ := hs
  refine ⟨by rwa [ids], by rwa [length], by rwa [lastId], fun r hr => ?_, by rw [length, inserted, received, exited, abandoned]; exact count⟩
  have hm : r.id ∈ t.tracker.runs.map Run.id := List.mem_map_of_mem hr
  rw [ids] at hm
  obtain ⟨x, hx, e⟩ := List.mem_map.1 hm
  rw [← e]
  exact range x hx

theorem enterRun_runsCounted (hs : s.RunsCounted) (room : s.hasRoom = true) {r : Run} (hr : r.id = s.nextRunId) :
    (enterRun r s).RunsCounted := by
  obtain ⟨nodup, few, last, range, count⟩ := hs
  obtain ⟨low, high, free⟩ := nextRunId_spec last room
  have perm := placeRun_perm r s.tracker.runs
  have hruns : (enterRun r s).tracker.runs = placeRun r s.tracker.runs := rfl
  have hlast : (enterRun r s).tracker.lastId ≤ 255 := hr.le.trans high
  refine ⟨?_, ?_, hlast, fun x hx => ?_, ?_⟩
  · rw [hruns, (perm.map Run.id).nodup_iff, List.map_cons, List.nodup_cons, hr]
    exact ⟨free, nodup⟩
  · rw [hruns, perm.length_eq]
    exact of_decide_eq_true room
  · obtain rfl | hx := List.mem_cons.1 (perm.mem_iff.1 (hruns ▸ hx))
    · rw [hr]; exact ⟨low, high⟩
    · exact range x hx
  · rw [hruns, perm.length_eq, List.length_cons, BitVec.ofNat_add, count]
    show _ = s.tracker.inserted + 1#32 - s.tracker.received - s.tracker.exited - s.tracker.abandoned
    generalize BitVec.ofNat 32 1 = one
    ring

theorem takeOut_runsCounted (w : WayOut) {id : Nat} (hs : s.RunsCounted) (h : ∃ r ∈ s.tracker.runs, r.id = id) :
    (takeOut w id s).RunsCounted := by
  obtain ⟨nodup, few, last, range, count⟩ := hs
  obtain ⟨r, hr, rfl⟩ := h
  obtain ⟨ahead, behind, heq⟩ := List.append_of_mem hr
  have hne := ne_of_nodup_split (heq ▸ nodup)
  have left : s.tracker.runs.filter (fun x => x.id != r.id) = ahead ++ behind := by
    rw [heq]; exact filter_split hne.1 hne.2
  have one : s.tracker.runs.length = (ahead ++ behind).length + 1 := by rw [heq]; simp; omega
  have sub : (ahead ++ behind).Sublist s.tracker.runs := left ▸ List.filter_sublist
  rw [takeOut_eq]
  have hruns : (s.tracker.without w r.id).runs = ahead ++ behind := left
  refine ⟨?_, ?_, last, fun x hx => ?_, ?_⟩
  · exact (nodup.sublist ((hruns ▸ sub).map Run.id))
  · exact (hruns ▸ sub.length_le).trans few
  · exact range x (sub.subset (hruns ▸ hx))
  · show BitVec.ofNat 32 (s.tracker.without w r.id).runs.length = _
    rw [one, BitVec.ofNat_add] at count
    rw [hruns, eq_sub_of_add_eq count]
    cases w <;> simp only [Tracker.without, reduceCtorEq, if_true, if_false] <;> generalize BitVec.ofNat 32 1 = one <;> ring

theorem UnitChange.runsCounted (h : UnitChange s t) (hs : s.RunsCounted) : t.RunsCounted := by
  cases h with
  | runs h => exact hs.of_same h.ids rfl rfl rfl rfl rfl
  | adopt room => exact enterRun_runsCounted hs room rfl
  | insert room => exact (enterRun_runsCounted hs room rfl).of_same rfl rfl rfl rfl rfl rfl
  | takeOut w h => exact takeOut_runsCounted w hs h
  | abandonAll =>
    exact abandonAll_induct (P := State.RunsCounted) (fun _ h => h.1) (fun _ _ => takeOut_runsCounted .abandoned)
      (fun _ _ _ _ _ _ => id) hs
  | unbind k =>
    rw [unbindSlot_eq]
    refine hs.of_same ?_ rfl rfl rfl rfl rfl
    show List.map _ (List.map _ _) = _
    rw [List.map_map]
    exact List.map_congr_left fun x _ => ite_key Run.id (f := fun x => { x with bound := none }) (fun _ => rfl)
      (P := fun x => (s.slot k).bound = some x.id) x
  | bind => exact hs.of_same (map_key_update Run.id (fun r => { r with bound := some _ }) (fun _ => rfl) _ _) rfl rfl rfl rfl rfl
  | _ => exact hs

theorem Change.runsCounted (h : Change s t) (hs : s.RunsCounted) : t.RunsCounted := by
  cases h with
  | unit h => exact h.runsCounted hs
  | applyCommit =>
    refine applyCommit_keeps (P := State.RunsCounted) (fun _ _ _ h => h) (fun t _ _ => ?_) hs
    cases t
    · exact hs
    · refine hs.of_same ?_ rfl rfl rfl rfl rfl
      show List.map _ (List.map _ _) = _
      rw [List.map_map]; rfl
    · exact hs
  | restart => exact ⟨List.nodup_nil, Nat.zero_le _, Nat.zero_le _, nofun, show 0#32 = 0#32 - 0#32 - 0#32 - 0#32 by decide⟩
  | powerOn => exact ⟨List.nodup_nil, Nat.zero_le _, Nat.zero_le _, nofun, show 0#32 = 0#32 - 0#32 - 0#32 - 0#32 by decide⟩
  | _ => exact hs

/-- Settles O54: a run enters with a free id and leaves with its counter. -/
theorem runsStayCounted : Obligations.RunsStayCounted := by
  intro c s t
  exact exec_keeps (P := State.RunsCounted) (fun _ _ => Change.runsCounted) fun _ _ => id

/-! ### Bindings (O57) -/

/-- What the bindings of slots and runs say of each other (R142). -/
def State.Mirrored (s : State) : Prop :=
  (∀ k id, (s.slot k).bound = some id → ∃ r ∈ s.tracker.runs, r.id = id ∧ r.bound = some k) ∧
  (∀ r ∈ s.tracker.runs, ∀ k, r.bound = some k → (s.slot k).bound = some r.id) ∧
  ∀ k, (s.slot k).state = .idle → (s.slot k).bound = none

theorem State.bindingsMirrored_iff : s.BindingsMirrored ↔ s.RunsCounted ∧ s.Mirrored := .rfl

/-- The run table counts for the bindings by its ids and bound slots alone. -/
theorem State.Mirrored.of_runs {rs : List Run} (hs : s.Mirrored) (ids : rs.map Run.id = s.tracker.runs.map Run.id)
    (bound : rs.map Run.bound = s.tracker.runs.map Run.bound) : (s.setRuns rs).Mirrored := by
  have length : rs.length = s.tracker.runs.length := by simpa using congrArg List.length ids
  have at_ (i : Nat) (hi : i < rs.length) (hi' : i < s.tracker.runs.length) :
      rs[i].id = s.tracker.runs[i].id ∧ rs[i].bound = s.tracker.runs[i].bound := by
    constructor
    · simpa [hi, hi'] using congrArg (fun l : List Nat => l[i]?) ids
    · simpa [hi, hi'] using congrArg (fun l : List (Option SlotId) => l[i]?) bound
  obtain ⟨toRun, toSlot, idle⟩ := hs
  refine ⟨fun k id hk => ?_, fun r hr k hk => ?_, idle⟩
  · obtain ⟨r, hr, hid, hb⟩ := toRun k id hk
    obtain ⟨i, hi, rfl⟩ := List.getElem_of_mem hr
    obtain ⟨e1, e2⟩ := at_ i (length ▸ hi) hi
    exact ⟨rs[i]'(length ▸ hi), List.getElem_mem _, e1.trans hid, e2.trans hb⟩
  · obtain ⟨i, hi, rfl⟩ := List.getElem_of_mem hr
    obtain ⟨e1, e2⟩ := at_ i hi (length ▸ hi)
    exact (toSlot _ (List.getElem_mem (length ▸ hi)) k (e2.symm.trans hk)).trans (congrArg some e1.symm)

/-- A slot's record counts for the bindings by its binding and by being IDLE. -/
theorem State.Mirrored.of_slot {k : SlotId} {x : Slot} (hs : s.Mirrored) (bound : x.bound = (s.slot k).bound)
    (idle : x.state = .idle → x.bound = none) : (s.setSlot k x).Mirrored := by
  obtain ⟨toRun, toSlot, hidle⟩ := hs
  have same (j : SlotId) : ((s.setSlot k x).slot j).bound = (s.slot j).bound := by
    rw [State.slot_setSlot]
    split
    · next e => rw [e, bound]
    · rfl
  refine ⟨fun j id hj => toRun j id (same j ▸ hj), fun r hr j hj => (same j).trans (toSlot r hr j hj), fun j => ?_⟩
  rw [State.slot_setSlot]
  split
  · exact idle
  · exact hidle j

theorem enterRun_mirrored (hs : s.Mirrored) {r : Run} (hb : r.bound = none) : (enterRun r s).Mirrored := by
  obtain ⟨toRun, toSlot, idle⟩ := hs
  have mem (x : Run) : x ∈ (enterRun r s).tracker.runs ↔ x = r ∨ x ∈ s.tracker.runs :=
    ((placeRun_perm r _).mem_iff).trans List.mem_cons
  refine ⟨fun k id hk => ?_, fun x hx k hk => ?_, idle⟩
  · obtain ⟨x, hx, h⟩ := toRun k id hk
    exact ⟨x, (mem x).2 (.inr hx), h⟩
  · obtain rfl | hx := (mem x).1 hx
    · rw [hb] at hk; cases hk
    · exact toSlot x hx k hk

/-- A new run bound to an unbound slot, which is bound to it. -/
theorem insertBound_mirrored {k : SlotId} (hs : s.Mirrored)
    (unbound : (s.slot k).bound = none) (active : (s.slot k).state ≠ .idle) : (insertBound k s).Mirrored := by
  obtain ⟨toRun, toSlot, idle⟩ := hs
  generalize hr : entryRun s s.nextRunId (s.slot k).cls (s.trapOf k) (.launched k) (some k) = r
  have hid : r.id = s.nextRunId := by rw [← hr]; rfl
  have hb : r.bound = some k := by rw [← hr]; rfl
  have mem (x : Run) : x ∈ (insertBound k s).tracker.runs ↔ x = r ∨ x ∈ s.tracker.runs := by
    rw [← hr]; exact ((placeRun_perm _ _).mem_iff).trans List.mem_cons
  have slot (j : SlotId) : (insertBound k s).slot j =
      if j = k then { s.slot k with bound := some s.nextRunId, count := (s.slot k).count - 1 } else s.slot j :=
    State.slot_setSlot ..
  refine ⟨fun j id hj => ?_, fun x hx j hj => ?_, fun j hj => ?_⟩
  · rw [slot] at hj
    split at hj
    · next e =>
      cases hj
      exact ⟨r, (mem r).2 (.inl rfl), hid, e ▸ hb⟩
    · obtain ⟨x, hx, h⟩ := toRun j id hj
      exact ⟨x, (mem x).2 (.inr hx), h⟩
  · rw [slot]
    obtain rfl | hx := (mem x).1 hx
    · rw [hb] at hj
      cases hj
      rw [if_pos rfl, hid]
    · have hsl := toSlot x hx j hj
      split
      · next e => rw [← e, hsl] at unbound; cases unbound
      · exact hsl
  · rw [slot] at hj ⊢
    split at hj
    · exact absurd hj active
    · next e => rw [if_neg e]; exact idle j hj

theorem takeOut_mirrored (w : WayOut) (id : Nat) (hs : s.Mirrored) : (takeOut w id s).Mirrored := by
  obtain ⟨toRun, toSlot, idle⟩ := hs
  have mem (x : Run) : x ∈ (takeOut w id s).tracker.runs ↔ x ∈ s.tracker.runs ∧ x.id ≠ id := by
    rw [takeOut_eq]; simp [Tracker.without]
  refine ⟨fun k i hk => ?_, fun x hx k hk => ?_, fun k hk => ?_⟩
  · rw [takeOut_slot] at hk
    dsimp only at hk
    split at hk
    · cases hk
    · next hne =>
      obtain ⟨x, hx, hid, hb⟩ := toRun k i hk
      exact ⟨x, (mem x).2 ⟨hx, fun e => hne (by rw [hk, ← e, hid])⟩, hid, hb⟩
  · obtain ⟨hx, hne⟩ := (mem x).1 hx
    have hsl := toSlot x hx k hk
    rw [takeOut_slot]
    dsimp only
    rw [if_neg (by rw [hsl]; simpa using hne)]
    exact hsl
  · rw [takeOut_slot] at hk ⊢
    dsimp only at hk ⊢
    rw [idle k hk]
    split <;> rfl

theorem unbindSlot_mirrored (k : SlotId) (nodup : (s.tracker.runs.map Run.id).Nodup) (hs : s.Mirrored) :
    (unbindSlot k s).Mirrored := by
  obtain ⟨toRun, toSlot, idle⟩ := hs
  have slot (j : SlotId) : (unbindSlot k s).slot j = if j = k then { s.slot k with bound := none } else s.slot j := by
    rw [unbindSlot_eq]; exact s.slot_setSlot j k _
  have runs : (unbindSlot k s).tracker.runs =
      s.tracker.runs.map (fun x => if (s.slot k).bound = some x.id then { x with bound := none } else x) := by
    rw [unbindSlot_eq]
  refine ⟨fun j id hj => ?_, fun x hx j hj => ?_, fun j hj => ?_⟩
  · rw [slot] at hj
    split at hj
    · cases hj
    · next hne =>
      obtain ⟨x, hx, hid, hb⟩ := toRun j id hj
      refine ⟨x, ?_, hid, hb⟩
      rw [runs]
      refine List.mem_map.2 ⟨x, hx, if_neg fun e => ?_⟩
      obtain ⟨y, hy, same, hk⟩ := toRun k x.id e
      rw [List.inj_on_of_nodup_map nodup hy hx same, hb] at hk
      exact hne (Option.some.inj hk)
  · rw [runs] at hx
    obtain ⟨y, hy, rfl⟩ := List.mem_map.1 hx
    split at hj
    · cases hj
    · next hne =>
      rw [if_neg hne, slot]
      have hsl := toSlot y hy j hj
      split
      · next e => exact absurd (e ▸ hsl) hne
      · exact hsl
  · rw [slot] at hj ⊢
    split at hj
    · next e => rw [if_pos e]
    · next e => rw [if_neg e]; exact idle j hj

theorem bindSlot_mirrored {k : SlotId} {id : Nat} (nodup : (s.tracker.runs.map Run.id).Nodup) (hs : s.Mirrored)
    (unbound : (s.slot k).bound = none) (active : (s.slot k).state ≠ .idle)
    (run : ∃ r ∈ s.tracker.runs, r.id = id ∧ r.bound = none) : (bindSlot k id s).Mirrored := by
  obtain ⟨toRun, toSlot, idle⟩ := hs
  obtain ⟨r, hr, rfl, hb⟩ := run
  have slot (j : SlotId) : (bindSlot k r.id s).slot j = if j = k then { s.slot k with bound := some r.id } else s.slot j :=
    s.slot_setSlot j k _
  have runs : (bindSlot k r.id s).tracker.runs =
      s.tracker.runs.map (fun x => if x.id = r.id then { x with bound := some k } else x) := rfl
  refine ⟨fun j i hj => ?_, fun x hx j hj => ?_, fun j hj => ?_⟩
  · rw [slot] at hj
    rw [runs]
    split at hj
    · next e =>
      cases hj
      exact ⟨_, List.mem_map_of_mem hr, by rw [if_pos rfl], by rw [if_pos rfl, e]⟩
    · obtain ⟨x, hx, hid, hbx⟩ := toRun j i hj
      refine ⟨x, List.mem_map.2 ⟨x, hx, if_neg fun e => ?_⟩, hid, hbx⟩
      rw [List.inj_on_of_nodup_map nodup hx hr e, hb] at hbx
      cases hbx
  · rw [runs] at hx
    rw [slot]
    obtain ⟨y, hy, rfl⟩ := List.mem_map.1 hx
    split at hj
    · next e =>
      cases hj
      rw [if_pos rfl, if_pos e, e]
    · next hne =>
      rw [if_neg hne]
      have hsl := toSlot y hy j hj
      split
      · next e => rw [← e, hsl] at unbound; cases unbound
      · exact hsl
  · rw [slot] at hj ⊢
    split at hj
    · exact absurd hj active
    · next e => rw [if_neg e]; exact idle j hj

theorem UnitChange.bindingsMirrored (h : UnitChange s t) (hs : s.BindingsMirrored) : t.BindingsMirrored := by
  refine ⟨h.runsCounted hs.1, ?_⟩
  obtain ⟨counted, mirrored⟩ := State.bindingsMirrored_iff.1 hs
  show t.Mirrored
  cases h with
  | runs h => exact mirrored.of_runs h.ids (h.bound counted.1)
  | adopt => exact enterRun_mirrored mirrored rfl
  | insert room unbound active => exact insertBound_mirrored mirrored unbound active
  | takeOut w h => exact takeOut_mirrored w _ mirrored
  | abandonAll =>
    exact abandonAll_keeps (P := State.Mirrored) (fun _ => takeOut_mirrored .abandoned) (fun _ _ _ _ _ _ => id) mirrored
  | unbind k => exact unbindSlot_mirrored k counted.1 mirrored
  | bind unbound active run => exact bindSlot_mirrored counted.1 mirrored unbound active run
  | @slot k _ _ h =>
    exact mirrored.of_slot h.bound fun e => (h.idle e).elim (fun e => h.bound.trans (mirrored.2.2 k e)) id
  | @arm k _ _ idle _ _ _ unbound => exact mirrored.of_slot (unbound.trans (mirrored.2.2 k idle).symm) fun _ => unbound
  | _ => exact mirrored

theorem mirrored_of_clear (runs : t.tracker.runs = []) (slots : ∀ k, (t.slot k).bound = none) : t.Mirrored := by
  refine ⟨fun k id h => ?_, fun r hr => ?_, fun k _ => slots k⟩
  · rw [slots k] at h; cases h
  · rw [runs] at hr; cases hr

theorem restartEffects_slot (straps : BitVec 7) (s : State) (k : SlotId) :
    (restartEffects straps s).slot k = (s.slot k).restarted := by fin_cases k <;> rfl

theorem powerOnState_slot (straps : BitVec 7) (s : State) (k : SlotId) : (powerOnState straps s).slot k = Slot.initial := by
  fin_cases k <;> rfl

theorem Change.bindingsMirrored (h : Change s t) (hs : s.BindingsMirrored) : t.BindingsMirrored := by
  refine ⟨h.runsCounted hs.1, ?_⟩
  obtain ⟨counted, mirrored⟩ := State.bindingsMirrored_iff.1 hs
  show t.Mirrored
  cases h with
  | unit h => exact (h.bindingsMirrored hs).2
  | applyCommit =>
    refine applyCommit_keeps (P := State.Mirrored) (fun _ _ _ h => h) (fun t _ _ => ?_) mirrored
    cases t
    · exact mirrored
    · refine mirrored.of_runs ?_ ?_ <;> exact List.map_map
    · exact mirrored
  | restart => exact mirrored_of_clear rfl fun k => by rw [restartEffects_slot]; rfl
  | powerOn => exact mirrored_of_clear rfl fun k => by rw [powerOnState_slot]; rfl
  | _ => exact mirrored

/-! ### Slots are IDLE outside GUARDED (O57) -/

theorem State.SlotsIdleOutsideGuarded.of_same (hs : s.SlotsIdleOutsideGuarded) (mode : t.mgmt.mode = s.mgmt.mode)
    (slots : ∀ k, (t.slot k).state = (s.slot k).state) : t.SlotsIdleOutsideGuarded := fun hm k => by
  rw [slots]; exact hs (mode ▸ hm) k

theorem unbindSlot_slot_state (j k : SlotId) : ((unbindSlot k s).slot j).state = (s.slot j).state := by
  rw [unbindSlot_eq]
  show ((s.setSlot k _).slot j).state = _
  rw [State.slot_setSlot]
  split
  · next e => rw [e]
  · rfl

/-- A slot's record may leave the states of the slots as they are. -/
theorem setSlot_state {k : SlotId} {x : Slot} (h : x.state = (s.slot k).state) (j : SlotId) :
    ((s.setSlot k x).slot j).state = (s.slot j).state := by
  rw [State.slot_setSlot]
  split
  · next e => rw [e, h]
  · rfl

theorem UnitChange.slotsIdle (h : UnitChange s t) (hs : s.SlotsIdleOutsideGuarded) : t.SlotsIdleOutsideGuarded := by
  cases h with
  | insert => exact hs.of_same rfl (setSlot_state (s := enterRun _ s) rfl)
  | takeOut w h => exact hs.of_same (by rw [takeOut_eq]) fun k => by rw [takeOut_slot]
  | abandonAll =>
    exact abandonAll_keeps (P := State.SlotsIdleOutsideGuarded)
      (fun _ _ h => h.of_same (by rw [takeOut_eq]) fun k => by rw [takeOut_slot]) (fun _ _ _ _ _ _ => id) hs
  | unbind k => exact hs.of_same (by rw [unbindSlot_eq]) fun j => unbindSlot_slot_state j k
  | bind => exact hs.of_same rfl (setSlot_state (s := s) rfl)
  | @slot k x _ h =>
    intro mode j
    have idle := hs mode
    rw [State.slot_setSlot]
    split
    · exact not_not.1 fun hx => h.active hx (idle k)
    · exact idle j
  | arm _ mode => exact fun hm => absurd mode hm
  | mode h =>
    intro hm k
    obtain h | h | h := h
    · exact absurd h hm
    · exact hs h k
    · exact h k
  | _ => exact hs

theorem Change.slotsIdle (h : Change s t) (hs : s.SlotsIdleOutsideGuarded) : t.SlotsIdleOutsideGuarded := by
  cases h with
  | unit h => exact h.slotsIdle hs
  | applyCommit =>
    refine applyCommit_keeps (P := State.SlotsIdleOutsideGuarded) (fun _ _ _ h => h) (fun t _ _ => ?_) hs
    cases t <;> exact hs
  | restart => exact fun _ k => by rw [restartEffects_slot]; rfl
  | powerOn => exact fun _ k => by rw [powerOnState_slot]; rfl
  | _ => exact hs

/-- Settles O57: a binding is made and ended on both sides, and every way out of GUARDED ends the trains. -/
theorem bindingsStayMirrored : Obligations.BindingsStayMirrored :=
  ⟨fun _ _ _ => exec_keeps (P := State.BindingsMirrored) (fun _ _ => Change.bindingsMirrored) fun _ _ => id,
    fun _ _ _ => exec_keeps (P := State.SlotsIdleOutsideGuarded) (fun _ _ => Change.slotsIdle) fun _ _ => id⟩

end Sys2Proof.Machine
end

section
/-! PROOF. The classes of runs and slots, and the order of the run table, under every change (O56, O55). -/

namespace Sys2Proof.Machine

open Relation

variable {s t : State}

/-! ### Classes (O56) -/

/-- The classes that a slot holds are defined (R8). -/
def State.SlotInClass (s : State) (x : Slot) : Prop :=
  (s.classAt x.cls).isSome ∧ ∀ ch, x.chain = some ch → (s.classAt ch.cls).isSome

/-- The runs and the active slots hold defined classes, and the runs are within their limits. -/
def State.InClass (s : State) : Prop :=
  (∀ r ∈ s.tracker.runs, s.RunInClass r) ∧ ∀ k, (s.slot k).state ≠ .idle → s.SlotInClass (s.slot k)

theorem State.runsWithinClass_iff :
    s.RunsWithinClass ↔ s.tables.active.ClassesInRange ∧ s.tables.shadow.ClassesInRange ∧ s.InClass := .rfl

theorem State.InClass.of_slots (hs : s.InClass) (active : t.tables.active = s.tables.active)
    (runs : ∀ r ∈ t.tracker.runs, r ∈ s.tracker.runs) (state : ∀ k, (t.slot k).state = (s.slot k).state)
    (cls : ∀ k, (t.slot k).cls = (s.slot k).cls) (chain : ∀ k, (t.slot k).chain = (s.slot k).chain) : t.InClass := by
  unfold State.InClass State.SlotInClass State.RunInClass State.classOf State.classAt
  rw [active]
  exact ⟨fun r hr => hs.1 r (runs r hr), fun k hk => by rw [cls, chain]; exact hs.2 k (state k ▸ hk)⟩

/-- A run with entry values is in its class when the class is defined. -/
theorem entryRun_inClass (hc : s.tables.active.ClassesInRange) {c : Nat} (hd : (s.classAt c).isSome) (id p : Nat) (o : Origin)
    (b : Option SlotId) : s.RunInClass (entryRun s id c p o b) := by
  obtain ⟨low, high, -, bands⟩ := s.classOf_inRange hc hd
  exact ⟨hd, low, high, le_rfl, Nat.mul_le_mul_right _ bands⟩

theorem enterRun_inClass (hs : s.InClass) {r : Run} (hr : s.RunInClass r) : (enterRun r s).InClass := by
  refine ⟨fun x hx => ?_, hs.2⟩
  obtain rfl | hx := List.mem_cons.1 ((placeRun_perm r _).mem_iff.1 hx)
  · exact hr
  · exact hs.1 x hx

/-- A slot record that may replace the one of a slot. -/
theorem setSlot_inClass (hs : s.InClass) {k : SlotId} {x : Slot} (hx : x.state ≠ .idle → s.SlotInClass x) :
    (s.setSlot k x).InClass := by
  refine ⟨hs.1, fun j => ?_⟩
  rw [State.slot_setSlot]
  split
  · exact hx
  · exact hs.2 j

theorem takeOut_inClass (w : WayOut) (id : Nat) (hs : s.InClass) : (takeOut w id s).InClass := by
  refine hs.of_slots (by rw [takeOut_eq]) (fun r hr => ?_) (fun k => by rw [takeOut_slot]) (fun k => by rw [takeOut_slot])
    fun k => by rw [takeOut_slot]
  rw [takeOut_eq] at hr
  exact List.mem_of_mem_filter hr

/-- Fields of the runs that the classes do not read. -/
theorem setRuns_map_inClass (hs : s.InClass) (f : Run → Run)
    (hf : ∀ r, (f r).cls = r.cls ∧ (f r).slip = r.slip ∧ (f r).band = r.band) :
    (s.setRuns (s.tracker.runs.map f)).InClass := by
  refine ⟨fun r hr => ?_, hs.2⟩
  obtain ⟨x, hx, rfl⟩ := List.mem_map.1 hr
  obtain ⟨cls, slip, band⟩ := hf x
  have h := hs.1 x hx
  unfold State.RunInClass at h ⊢
  rw [cls, slip, band]
  exact h

theorem UnitChange.inClass (h : UnitChange s t) (hc : s.tables.active.ClassesInRange) (hs : s.InClass) : t.InClass := by
  cases h with
  | runs h => exact ⟨h.inClass hc hs.1, hs.2⟩
  | adopt _ cls => exact enterRun_inClass hs (entryRun_inClass hc cls _ _ _ _)
  | @insert k _ _ _ active =>
    have slot := hs.2 k active
    exact setSlot_inClass (enterRun_inClass hs (entryRun_inClass hc slot.1 _ _ _ _)) fun _ => slot
  | takeOut w => exact takeOut_inClass w _ hs
  | abandonAll => exact abandonAll_keeps (P := State.InClass) (fun _ => takeOut_inClass .abandoned) (fun _ _ _ _ _ _ => id) hs
  | unbind k =>
    rw [unbindSlot_eq]
    refine setSlot_inClass (setRuns_map_inClass hs
      (fun x => if (s.slot k).bound = some x.id then { x with bound := none } else x) fun r => ?_) fun hk => hs.2 k hk
    split <;> exact ⟨rfl, rfl, rfl⟩
  | @bind k id _ _ active =>
    refine setRuns_map_inClass (s := s.setSlot k { s.slot k with bound := some id }) ?_ _ fun r => ?_
    · exact setSlot_inClass hs fun _ => hs.2 k active
    · split <;> exact ⟨rfl, rfl, rfl⟩
  | @slot k x _ h =>
    refine setSlot_inClass hs fun hx => ?_
    obtain ⟨cls, chain⟩ := hs.2 k (h.active hx)
    constructor
    · obtain e | ⟨ch, hch, e⟩ := h.cls
      · rw [e]; exact cls
      · rw [e]; exact chain ch hch
    · exact fun ch hch => (h.chain ch hch).elim (chain ch) id
  | arm _ _ cls chain => exact setSlot_inClass hs fun _ => ⟨cls, fun ch e => by rw [chain] at e; cases e⟩
  | _ => exact hs

theorem Tables.empty_inRange : Tables.empty.ClassesInRange := ⟨rfl, fun _ h => by simp [Tables.empty] at h⟩

theorem clampBand_bounds {c : PigClass} (h : c.InRange) (band : Nat) :
    c.band0 * 1000 ≤ clampBand c band ∧ clampBand c band ≤ c.bandMax * 1000 := by
  have := Nat.mul_le_mul_right 1000 h.2.2.2
  unfold clampBand
  split
  · exact ⟨le_rfl, this⟩
  split <;> omega

theorem firstError_none {cs : List (Nat × Option Nat)} (h : firstError cs = none) : ∀ c ∈ cs, c.2 = none := by
  induction cs with
  | nil => exact nofun
  | cons c cs ih =>
    obtain ⟨code, _ | i⟩ := c
    · exact List.forall_mem_cons.2 ⟨rfl, ih h⟩
    · cases h

/-- A Class Table that passes its validation defines every class in use (R17). -/
theorem validateClasses_defines {cs : List (Option PigClass)} (h : validateClasses s cs = none) {c : Nat} (hc : c < 8)
    (use : s.classInUse c = true) : (cs.getD c none).isSome := by
  have passed := firstError_none h _ (List.mem_cons_of_mem _ List.mem_cons_self)
  have := List.find?_eq_none.1 passed c (List.mem_range.2 hc)
  simpa [use, Option.isSome_iff_ne_none] using this

theorem State.lt_of_classAt (hc : s.tables.active.ClassesInRange) {c : Nat} (h : (s.classAt c).isSome) : c < 8 := by
  by_contra hlt
  rw [State.classAt, List.getD, List.getElem?_eq_none (by rw [hc.1]; omega)] at h
  cases h

theorem classInUse_run {r : Run} (hr : r ∈ s.tracker.runs) : s.classInUse r.cls = true := by
  unfold State.classInUse
  rw [Bool.or_eq_true]
  exact .inl (List.any_eq_true.2 ⟨r, hr, beq_self_eq_true _⟩)

theorem classInUse_slot {k : SlotId} {c : Nat} (hk : (s.slot k).state ≠ .idle)
    (h : (s.slot k).cls = c ∨ ∃ ch, (s.slot k).chain = some ch ∧ ch.cls = c) : s.classInUse c = true := by
  unfold State.classInUse
  rw [Bool.or_eq_true]
  refine .inr (List.any_eq_true.2 ⟨k, mem_slotIds k, ?_⟩)
  rw [Bool.and_eq_true, Bool.or_eq_true, bne_iff_ne, beq_iff_eq]
  refine ⟨hk, h.imp_right ?_⟩
  rintro ⟨ch, hch, rfl⟩
  simp [hch]

/-- A Class Table is installed over the classes in use, each run's band brought within its class (R19). -/
theorem installClasses_inClass (hc : s.tables.active.ClassesInRange) (hsh : s.tables.shadow.ClassesInRange) (hs : s.InClass)
    (valid : validateClasses s s.tables.shadow.classes = none) : (installTable .classes s).InClass := by
  have classAt (c : Nat) : (installTable .classes s).classAt c = s.tables.shadow.classes.getD c none := rfl
  have defined {c : Nat} (h : (s.classAt c).isSome) (use : s.classInUse c = true) :
      ((installTable .classes s).classAt c).isSome := validateClasses_defines valid (s.lt_of_classAt hc h) use
  have range : (installTable .classes s).tables.active.ClassesInRange := hsh
  refine ⟨fun r hr => ?_, fun k hk => ?_⟩
  · obtain ⟨x, hx, rfl⟩ := List.mem_map.1 hr
    obtain ⟨cls, low, high, -, -⟩ := hs.1 x hx
    have def' := defined cls (classInUse_run hx)
    obtain ⟨b1, b2⟩ := clampBand_bounds (State.classOf_inRange range def') x.band
    exact ⟨def', low, high, b1, b2⟩
  · obtain ⟨cls, chain⟩ := hs.2 k hk
    exact ⟨defined cls (classInUse_slot hk (.inl rfl)),
      fun ch hch => defined (chain ch hch) (classInUse_slot hk (.inr ⟨ch, hch, rfl⟩))⟩

theorem UnitChange.shadowInRange (h : UnitChange s t) (hs : s.tables.shadow.ClassesInRange) : t.tables.shadow.ClassesInRange := by
  cases h with
  | shadow h => exact h hs
  | takeOut => rw [takeOut_eq]; exact hs
  | abandonAll =>
    exact abandonAll_keeps (P := fun s => s.tables.shadow.ClassesInRange) (fun u id hu => by rw [takeOut_eq]; exact hu)
      (fun _ _ _ _ _ _ => id) hs
  | unbind => rw [unbindSlot_eq]; exact hs
  | _ => exact hs

theorem Change.runsWithinClass (h : Change s t) (hs : s.RunsWithinClass) : t.RunsWithinClass := by
  obtain ⟨active, shadow, inClass⟩ := State.runsWithinClass_iff.1 hs
  cases h with
  | unit h => exact ⟨h.portsKept.active ▸ active, h.shadowInRange shadow, h.inClass active inClass⟩
  | applyCommit =>
    refine applyCommit_keeps (P := State.RunsWithinClass) (fun _ _ _ h => h) (fun t _ valid => ?_) hs
    cases t
    · exact hs
    · exact ⟨shadow, shadow, installClasses_inClass active shadow inClass valid⟩
    · exact hs
  | restart straps =>
    refine ⟨active, Tables.empty_inRange, nofun, fun k hk => ?_⟩
    rw [restartEffects_slot] at hk
    exact absurd rfl hk
  | powerOn =>
    refine ⟨Tables.empty_inRange, Tables.empty_inRange, nofun, fun k hk => ?_⟩
    rw [powerOnState_slot] at hk
    exact absurd rfl hk
  | _ => exact hs

/-- Settles O56: a run enters within its class, moves within it, and a new Class Table clamps it. -/
theorem runsStayWithinTheirClass : Obligations.RunsStayWithinTheirClass := by
  intro c s t
  exact exec_keeps (P := State.RunsWithinClass) (fun _ _ => Change.runsWithinClass) fun _ _ => id

/-! ### The order of the run table (O55) -/

theorem State.runsOrdered_iff :
    s.RunsOrdered ↔ s.RunsCounted ∧ s.CommitGuarded ∧ s.map.Pairwise (fun a b => a.chainage < b.chainage) ∧
      RunsInOrder s.map s.tracker.runs := .rfl

theorem State.CommitGuarded.of_same (hs : s.CommitGuarded) (commit : t.tables.pendingCommit = s.tables.pendingCommit)
    (runs : s.tracker.runs = [] → t.tracker.runs = []) (idle : ∀ k, (s.slot k).state = .idle → (t.slot k).state = .idle)
    (service : t.mgmt.service = s.mgmt.service) : t.CommitGuarded := by
  intro h
  obtain ⟨empty, slots, taken⟩ := hs (commit ▸ h)
  exact ⟨runs empty, fun k => idle k (slots k), by rwa [service]⟩

/-- A pending Line Map commit stands in service and leaves no slot active. -/
theorem State.CommitGuarded.notPending (hs : s.CommitGuarded) (h : s.NoCommitTaken ∨ ∃ k, (s.slot k).state ≠ .idle) :
    s.tables.pendingCommit ≠ some .lineMap := by
  intro e
  obtain ⟨-, idle, r, hr⟩ := hs e
  obtain h | ⟨k, hk⟩ := h
  · exact h r hr
  · exact hk (idle k)

theorem takeOut_commitGuarded (w : WayOut) (id : Nat) (hs : s.CommitGuarded) : (takeOut w id s).CommitGuarded := by
  refine hs.of_same (by rw [takeOut_eq]) (fun e => ?_) (fun k hk => by rw [takeOut_slot]; exact hk) (by rw [takeOut_eq])
  rw [takeOut_eq]
  show s.tracker.runs.filter _ = []
  rw [e]; rfl

theorem setSlot_commitGuarded {k : SlotId} {x : Slot} (hs : s.CommitGuarded)
    (h : (s.slot k).state = .idle → x.state = .idle) : (s.setSlot k x).CommitGuarded := by
  refine hs.of_same rfl id (fun j hj => ?_) rfl
  rw [State.slot_setSlot]
  split
  · next e => exact h (e ▸ hj)
  · exact hj

theorem UnitChange.commitGuarded (h : UnitChange s t) (hs : s.CommitGuarded) : t.CommitGuarded := by
  cases h with
  | runs h => exact hs.of_same rfl (fun e => by simpa [e] using h.ids) (fun _ => id) rfl
  | adopt _ _ free => exact fun e => absurd e (hs.notPending (.inl free))
  | @insert k _ _ _ active => exact fun e => absurd e (hs.notPending (.inr ⟨k, active⟩))
  | takeOut w => exact takeOut_commitGuarded w _ hs
  | abandonAll =>
    exact abandonAll_keeps (P := State.CommitGuarded) (fun _ => takeOut_commitGuarded .abandoned) (fun _ _ _ _ _ _ => id) hs
  | unbind k =>
    refine hs.of_same (by rw [unbindSlot_eq]) (fun e => ?_) (fun j hj => by rwa [unbindSlot_slot_state]) (by rw [unbindSlot_eq])
    rw [unbindSlot_eq, e]; rfl
  | @bind k id _ _ active => exact fun e => absurd e (hs.notPending (.inr ⟨k, active⟩))
  | @slot k x _ h => exact setSlot_commitGuarded hs fun hk => not_not.1 fun hx => h.active hx hk
  | arm _ _ _ _ _ free => exact fun e => absurd e (hs.notPending (.inl free))
  | _ => exact hs

theorem State.slotActive_eq_false (h : s.slotActive = false) (k : SlotId) : (s.slot k).state = .idle := by
  have := List.any_eq_false.1 h k (mem_slotIds k)
  simpa using this

/-- COMMIT of a Line Map is taken without runs and with every slot IDLE (R14). -/
theorem commitRefusal_lineMap (h : s.commitRefusal .lineMap = none) :
    s.tracker.runs = [] ∧ ∀ k, (s.slot k).state = .idle := by
  unfold State.commitRefusal at h
  dsimp only at h
  split at h
  · cases h
  split at h
  · cases h
  next runs =>
  split at h
  · cases h
  next slots => exact ⟨not_not.1 runs, State.slotActive_eq_false (by simpa using slots)⟩

theorem Change.commitGuarded (h : Change s t) (hs : s.CommitGuarded) : t.CommitGuarded := by
  cases h with
  | unit h => exact h.commitGuarded hs
  | input h =>
    intro e
    obtain ⟨empty, idle, r, hr⟩ := hs e
    obtain rfl | free := h
    · exact ⟨empty, idle, r, hr⟩
    · exact absurd hr (free r)
  | @takeCommit r t _ h =>
    intro e
    cases e
    obtain ⟨empty, idle⟩ := commitRefusal_lineMap h
    exact ⟨empty, idle, r, rfl⟩
  | applyCommit =>
    unfold Machine.applyCommit
    split
    · exact hs
    split <;> exact nofun
  | restart => exact nofun
  | powerOn => exact nofun
  | _ => exact hs

theorem UnitChange.map (h : UnitChange s t) : t.map = s.map := by unfold State.map; rw [h.portsKept.active]

theorem RunsInOrder.sublist {m : List Point} {rs qs : List Run} (h : RunsInOrder m rs) (hq : qs.Sublist rs) :
    RunsInOrder m qs := ⟨h.1.sublist hq, fun r hr => h.2 r (hq.subset hr)⟩

/-- Fields of the runs that the order does not read. -/
theorem RunsInOrder.map {m : List Point} {rs : List Run} (h : RunsInOrder m rs) (f : Run → Run)
    (hf : ∀ r, (f r).position = r.position ∧ (f r).lastFix = r.lastFix) : RunsInOrder m (rs.map f) := by
  refine ⟨List.pairwise_map.2 (h.1.imp fun {a b} hab => by rwa [(hf a).1, (hf b).1]), fun r hr => ?_⟩
  obtain ⟨x, hx, rfl⟩ := List.mem_map.1 hr
  rw [(hf x).1, (hf x).2]
  exact h.2 x hx

theorem entryRun_inOrder (hm : s.map.Pairwise (fun a b => a.chainage < b.chainage)) (h : RunsInOrder s.map s.tracker.runs)
    (id c p : Nat) (o : Origin) (b : Option SlotId) : RunsInOrder s.map (placeRun (entryRun s id c p o b) s.tracker.runs) := by
  refine ⟨placeRun_sorted _ h.1, fun r hr => ?_⟩
  obtain rfl | hr := List.mem_cons.1 ((placeRun_perm _ _).mem_iff.1 hr)
  · exact ⟨le_rfl, chainMm_le_endMm hm p⟩
  · exact h.2 r hr

theorem takeOut_inOrder (w : WayOut) (id : Nat) (h : RunsInOrder s.map s.tracker.runs) :
    RunsInOrder (takeOut w id s).map (takeOut w id s).tracker.runs := by
  rw [takeOut_eq]
  exact h.sublist List.filter_sublist

theorem UnitChange.runsInOrder (h : UnitChange s t) (nodup : (s.tracker.runs.map Run.id).Nodup)
    (hm : s.map.Pairwise (fun a b => a.chainage < b.chainage)) (hs : RunsInOrder s.map s.tracker.runs) :
    RunsInOrder t.map t.tracker.runs := by
  cases h with
  | runs h => exact h.inOrder nodup hm hs
  | adopt => exact entryRun_inOrder hm hs _ _ _ _ _
  | insert => exact entryRun_inOrder hm hs _ _ _ _ _
  | takeOut w => exact takeOut_inOrder w _ hs
  | abandonAll =>
    exact abandonAll_keeps (P := fun s => RunsInOrder s.map s.tracker.runs) (fun _ => takeOut_inOrder .abandoned)
      (fun _ _ _ _ _ _ => id) hs
  | unbind k =>
    rw [unbindSlot_eq]
    exact hs.map _ fun r => by split <;> exact ⟨rfl, rfl⟩
  | bind => exact hs.map _ fun r => by split <;> exact ⟨rfl, rfl⟩
  | _ => exact hs

/-- A Line Map that passes check 4 has rising chainages (R16). -/
theorem mapChainageOrder_rising {m : List Point} (h : mapChainageOrder m = none) :
    m.Pairwise (fun a b => a.chainage < b.chainage) := by
  refine List.isChain_iff_pairwise.1 (List.isChain_iff_getElem.2 fun i hi => ?_)
  have := List.find?_eq_none.1 h (i + 1) (List.mem_range.2 hi)
  have here : m[i + 1]? = some m[i + 1] := List.getElem?_eq_getElem hi
  have before : m[i]? = some m[i] := List.getElem?_eq_getElem (Nat.lt_of_succ_lt hi)
  simp only [chainMm, Nat.add_sub_cancel, here, before, Option.elim_some, Nat.zero_lt_succ, decide_true, Bool.true_and,
    decide_eq_true_eq, not_le] at this
  omega

theorem Change.runsOrdered (h : Change s t) (hs : s.RunsOrdered) : t.RunsOrdered := by
  obtain ⟨counted, guarded, rising, inOrder⟩ := State.runsOrdered_iff.1 hs
  refine State.runsOrdered_iff.2 ⟨h.runsCounted counted, h.commitGuarded guarded, ?_⟩
  cases h with
  | unit h => exact ⟨h.map ▸ rising, h.runsInOrder counted.1 rising inOrder⟩
  | applyCommit =>
    refine applyCommit_keeps (P := fun t => t.map.Pairwise (fun a b => a.chainage < b.chainage) ∧
      RunsInOrder t.map t.tracker.runs) (fun _ _ _ h => h) (fun t pending valid => ?_) ⟨rising, inOrder⟩
    cases t
    · have passed : mapChainageOrder s.tables.shadow.lineMap = none := 
        firstError_none valid (4, mapChainageOrder _) (by simp)
      refine ⟨mapChainageOrder_rising passed, ?_⟩
      show RunsInOrder _ s.tracker.runs
      rw [(guarded pending).1]
      exact ⟨List.Pairwise.nil, nofun⟩
    · exact ⟨rising, inOrder.map _ fun _ => ⟨rfl, rfl⟩⟩
    · exact ⟨rising, inOrder⟩
  | restart => exact ⟨rising, List.Pairwise.nil, nofun⟩
  | powerOn => exact ⟨List.Pairwise.nil, List.Pairwise.nil, nofun⟩
  | _ => exact ⟨rising, inOrder⟩

/-- Settles O55: no change lets a run pass its leader, its last fix or the END point, and a Line Map is committed without runs. -/
theorem runsStayOrdered : Obligations.RunsStayOrdered := by
  intro c s t
  exact exec_keeps (P := State.RunsOrdered) (fun _ _ => Change.runsOrdered) fun _ _ => id

end Sys2Proof.Machine
end

section
/-! PROOF. The machine, its reset and its supply (O1 to O5, O60). -/

namespace Sys2Proof.Machine

open Relation

variable {s t : State}

/-! ### The shape of a command -/

/-- Settles O1: both are the two branches of `step`. -/
theorem stepRunsFrontCommand : Obligations.StepRunsFrontCommand := by
  refine ⟨fun _ _ _ => rfl, fun s h => ?_⟩
  unfold step
  rw [h]

/-- Every command but the two of the supply is an effect under the relay, refused when its operands are ill-formed. -/
theorem exec_shape (c : Instr) :
    (∃ straps, c = .powerOn straps) ∨ c = .powerLoss ∨ ∃ f : State → State, ∀ s, exec c s = ifWf c.wf (live f s) := by
  cases c
  case powerOn straps => exact .inl ⟨straps, rfl⟩
  case powerLoss => exact .inr (.inl rfl)
  all_goals exact .inr (.inr ⟨_, fun _ => rfl⟩)

theorem Change.pending (h : Change s t) : t.pending = s.pending := by
  cases h with
  | unit h => exact h.portsKept.pending
  | applyCommit =>
    refine applyCommit_keeps (P := fun t => t.pending = s.pending) (fun _ _ _ h => h) (fun t _ _ => ?_) rfl
    cases t <;> rfl
  | _ => rfl

theorem exec_pending {c : Instr} (h : exec c s = .next t) : t.pending = s.pending :=
  exec_keeps (P := fun t => t.pending = s.pending) (fun _ _ hc hs => hc.pending.trans hs) (fun _ _ => id) rfl h

/-- Settles O2. -/
theorem wellFormedCommandsAnswerNext : Obligations.WellFormedCommandsAnswerNext := by
  have next (c : Instr) (s : State) (hwf : c.wf = true) : ∃ t, exec c s = .next t := by
    obtain ⟨straps, rfl⟩ | rfl | ⟨f, hf⟩ := exec_shape c
    · exact ⟨_, rfl⟩
    · exact ⟨_, rfl⟩
    · exact ⟨_, (hf s).trans (ifWf_true hwf _)⟩
  constructor
  · intro c s hwf
    obtain ⟨t, ht⟩ := next c s hwf
    exact ⟨t, ht, exec_pending ht⟩
  · intro c s hwf
    obtain ⟨straps, rfl⟩ | rfl | ⟨f, hf⟩ := exec_shape c
    · cases hwf
    · cases hwf
    · rw [hf, hwf]; rfl

/-- Settles O5: every command but POWER_ON works under the relay, and POWER_LOSS closes it. -/
theorem closedRelayStopsEverything : Obligations.ClosedRelayStopsEverything := by
  intro c s closed hwf notPowerOn
  obtain ⟨straps, rfl⟩ | rfl | ⟨f, hf⟩ := exec_shape c
  · exact absurd rfl (notPowerOn straps)
  · show Host.Outcome.next { s with lines := { s.lines with bypassClosed := true } } = _
    rw [← closed]
  · rw [hf, ifWf_true hwf, live_closed closed]

/-! ### Reset and power -/

/-- Settles O3: each field of `State.reset` as it is written. -/
theorem resetHoldsPowerOnValues : Obligations.ResetHoldsPowerOnValues := by
  refine ⟨rfl, rfl, rfl, rfl, rfl, rfl, rfl, rfl, rfl, rfl, rfl, rfl, rfl, rfl, fun k => ?_, rfl, rfl, rfl, rfl, rfl, rfl, rfl,
    rfl, rfl, rfl, fun k => ?_, rfl, rfl, fun p => ?_, rfl, rfl⟩
  · fin_cases k <;> rfl
  · fin_cases k <;> rfl
  · cases p <;> exact ⟨rfl, rfl, rfl⟩

/-- The straps 0 and 127 give no node number (R98, R186). -/
theorem nodeOfStraps_eq (straps : BitVec 7) :
    nodeOfStraps straps = if 1 ≤ straps.toNat ∧ straps.toNat ≤ 126 then some straps.toNat else none := by
  have lt := straps.isLt
  have zero : straps = 0#7 ↔ straps.toNat = 0 := by rw [← BitVec.toNat_inj]; rfl
  have top : straps = 127#7 ↔ straps.toNat = 127 := by rw [← BitVec.toNat_inj]; rfl
  unfold nodeOfStraps
  simp only [zero, top]
  split
  · rw [if_neg (by omega)]
  · rw [if_pos (by omega)]

/-- Settles O4. -/
theorem powerOnAndPowerLoss : Obligations.PowerOnAndPowerLoss := by
  refine ⟨fun straps s => ?_, fun _ => rfl⟩
  rw [← nodeOfStraps_eq]
  rfl

theorem reset_runsCounted : State.reset.RunsCounted :=
  ⟨List.nodup_nil, Nat.zero_le _, Nat.zero_le _, nofun, show 0#32 = 0#32 - 0#32 - 0#32 - 0#32 by decide⟩

theorem reset_slot (k : SlotId) : State.reset.slot k = Slot.initial := by fin_cases k <;> rfl

/-- Settles O60: without runs, records, telegrams and log records there is nothing to violate them. -/
theorem invariantsHoldAtReset : Obligations.InvariantsHoldAtReset := by
  refine ⟨?queues, nofun, reset_runsCounted, ?order, ?classes, ?bindings, ?idle, ?records, ?log⟩
  case queues => exact ⟨Nat.zero_le _, Nat.zero_le _, Nat.zero_le _, Nat.zero_le _⟩
  case order => exact ⟨reset_runsCounted, nofun, List.Pairwise.nil, List.Pairwise.nil, nofun⟩
  case classes =>
    exact ⟨Tables.empty_inRange, Tables.empty_inRange, nofun, fun k hk => absurd (by rw [reset_slot]; rfl) hk⟩
  case bindings => exact ⟨reset_runsCounted, mirrored_of_clear rfl fun k => by rw [reset_slot]; rfl⟩
  case idle => exact fun _ k => by rw [reset_slot]; rfl
  case records => exact ⟨rfl, rfl, rfl, rfl, List.nodup_nil, nofun⟩
  case log => exact EventLog.SoundFor.of_empty (List.length_replicate ..) rfl rfl rfl

end Sys2Proof.Machine
end

section
/-! PROOF. Telegrams and table records read back as they were made (O8, O9). -/

namespace Sys2Proof.Machine

/-! ### Fields in a list of bytes -/

/-- A two-byte field whose bytes are those of a number. -/
theorem be16_of {bs : List Byte} {i n : Nat} (h : n < 65536) (high : byteAt bs i = (byte (n / 256)).toNat)
    (low : byteAt bs (i + 1) = (byte n).toNat) : be16 bs i = n := by
  unfold be16
  rw [high, low, byte_toNat, byte_toNat]
  omega

/-- A four-byte field whose bytes are those of a number. -/
theorem be32_of {bs : List Byte} {i n : Nat} (h : n < 4294967296) (b3 : byteAt bs i = (byte (n / 16777216)).toNat)
    (b2 : byteAt bs (i + 1) = (byte (n / 65536)).toNat) (b1 : byteAt bs (i + 2) = (byte (n / 256)).toNat)
    (b0 : byteAt bs (i + 2 + 1) = (byte n).toNat) : be32 bs i = n := by
  unfold be32 be16
  rw [b3, b2, b1, b0]
  simp only [byte_toNat]
  omega

theorem flagOfCode_flagByte (b : Bool) : flagOfCode (flagByte b).toNat = some b := by cases b <;> rfl

/-- A point index, or nothing, as a byte carries it. -/
def IndexOk (o : Option Nat) : Prop := ∀ n, o = some n → n ≤ 63

theorem indexOfByte_ok {n : Nat} (h : (decide (n ≤ 63) || decide (n = 255)) = true) : IndexOk (indexOfByte n) := by
  intro m hm
  unfold indexOfByte at hm
  split at hm
  · cases hm
  · cases hm
    simp only [Bool.or_eq_true, decide_eq_true_eq] at h
    omega

theorem optByte_toNat {o : Option Nat} (h : IndexOk o) : (optByte o).toNat = o.getD 255 ∧ (o.getD 255 ≤ 63 ∨ o.getD 255 = 255) := by
  cases o with
  | none => exact ⟨rfl, .inr rfl⟩
  | some n =>
    have := h n rfl
    exact ⟨toNat_byte_of_lt (show n < 256 by omega), .inl this⟩

theorem indexOfByte_getD {o : Option Nat} (h : IndexOk o) : indexOfByte (o.getD 255) = o := by
  cases o with
  | none => rfl
  | some n => exact if_neg (by have := h n rfl; omega : n ≠ 255)

theorem byteAt_lt (bs : List Byte) (i : Nat) : byteAt bs i < 256 := (bs.getD i 0#8).isLt

theorem be16_lt (bs : List Byte) (i : Nat) : be16 bs i < 65536 := by
  have := byteAt_lt bs i
  have := byteAt_lt bs (i + 1)
  unfold be16; omega

/-! ### Class, program, step and watch records -/

/-- A class record in the ranges of Table 1-3. -/
structure PigClass.Loadable (c : PigClass) : Prop where
  slip : 500 ≤ c.slip0 ∧ c.slip0 ≤ 1000
  band : 1 ≤ c.band0 ∧ c.band0 ≤ 2000
  growth : c.growth ≤ 200
  bandMax : c.band0 ≤ c.bandMax ∧ c.bandMax ≤ 20000
  stall : 30 ≤ c.stallLimit ∧ c.stallLimit < 65536

theorem parseClass_loadable {args : List Byte} {c : PigClass} (h : parseClass args = some c) : c.Loadable := by
  unfold parseClass at h
  dsimp only at h
  split at h
  · next hr =>
    cases h
    simp only [Bool.and_eq_true, decide_eq_true_eq] at hr
    obtain ⟨⟨⟨⟨⟨⟨⟨h1, h2⟩, h3⟩, h4⟩, h5⟩, h6⟩, h7⟩, h8⟩ := hr
    exact ⟨⟨h1, h2⟩, ⟨h3, h4⟩, h5, ⟨h6, h7⟩, h8, be16_lt ..⟩
  · cases h

theorem parseClass_encode {c : PigClass} (h : c.Loadable) (i : Byte) : parseClass (i :: encodeClass c) = some c := by
  obtain ⟨⟨h1, h2⟩, ⟨h3, h4⟩, h5, ⟨h6, h7⟩, h8, h9⟩ := h
  have slip : be16 (i :: encodeClass c) 1 = c.slip0 := be16_of (by omega) rfl rfl
  have band : be16 (i :: encodeClass c) 3 = c.band0 := be16_of (by omega) rfl rfl
  have growth : byteAt (i :: encodeClass c) 5 = c.growth := toNat_byte_of_lt (by omega)
  have bandMax : be16 (i :: encodeClass c) 6 = c.bandMax := be16_of (by omega) rfl rfl
  have stall : be16 (i :: encodeClass c) 8 = c.stallLimit := be16_of (by omega) rfl rfl
  unfold parseClass
  simp only [slip, band, growth, bandMax, stall]
  rw [if_pos (by simp only [Bool.and_eq_true, decide_eq_true_eq]; omega)]

/-- A program record in the ranges of Table 6-1. -/
structure Program.Loadable (p : Program) : Prop where
  trap : p.trap ≤ 63
  first : p.first ≤ 127
  count : 1 ≤ p.count ∧ p.count ≤ 32

theorem parseProgram_loadable {args : List Byte} {p : Program} (h : parseProgram args = some p) : p.Loadable := by
  unfold parseProgram at h
  split at h
  · cases h
  dsimp only at h
  split at h
  · next hr =>
    cases h
    simp only [Bool.and_eq_true, decide_eq_true_eq] at hr
    obtain ⟨⟨⟨h1, h2⟩, h3⟩, h4⟩ := hr
    exact ⟨h1, h2, h3, h4⟩
  · cases h

theorem ProgramKind.ofCode_code (k : ProgramKind) : ProgramKind.ofCode (byte k.code).toNat = some k := by cases k <;> rfl

theorem parseProgram_encode {p : Program} (h : p.Loadable) (i : Byte) : parseProgram (i :: encodeProgram p) = some p := by
  obtain ⟨h1, h2, h3, h4⟩ := h
  have kind : byteAt (i :: encodeProgram p) 1 = (byte p.kind.code).toNat := rfl
  have trap : byteAt (i :: encodeProgram p) 2 = p.trap := toNat_byte_of_lt (by omega)
  have first : byteAt (i :: encodeProgram p) 3 = p.first := toNat_byte_of_lt (by omega)
  have count : byteAt (i :: encodeProgram p) 4 = p.count := toNat_byte_of_lt (by omega)
  unfold parseProgram
  simp only [kind, trap, first, count, ProgramKind.ofCode_code]
  rw [if_pos (by simp only [Bool.and_eq_true, decide_eq_true_eq]; omega)]

/-- A step record in the ranges of Table 6-2. -/
structure StepRec.Loadable (r : StepRec) : Prop where
  operand : IndexOk r.operand
  timeout : r.timeout ≤ 7200
  value : r.value ≤ r.action.valueLimit

theorem Action.valueLimit_lt (a : Action) : a.valueLimit < 65536 := by cases a <;> decide

theorem Action.ofCode_code (a : Action) : Action.ofCode (byte a.code).toNat = some a := by cases a <;> rfl

theorem parseStep_loadable {args : List Byte} {r : StepRec} (h : parseStep args = some r) : r.Loadable := by
  unfold parseStep at h
  split at h
  · dsimp only at h
    split at h
    · next hr =>
      cases h
      rw [Bool.and_eq_true, Bool.and_eq_true, decide_eq_true_eq, decide_eq_true_eq] at hr
      obtain ⟨⟨h1, h2⟩, h3⟩ := hr
      exact ⟨indexOfByte_ok h1, h2, h3⟩
    · cases h
  · cases h

theorem parseStep_encode {r : StepRec} (h : r.Loadable) (i : Byte) : parseStep (i :: encodeStep r) = some r := by
  obtain ⟨h1, h2, h3⟩ := h
  have := r.action.valueLimit_lt
  obtain ⟨hop, hin⟩ := optByte_toNat h1
  have action : byteAt (i :: encodeStep r) 1 = (byte r.action.code).toNat := rfl
  have operand : byteAt (i :: encodeStep r) 2 = r.operand.getD 255 := hop
  have value : be16 (i :: encodeStep r) 3 = r.value := be16_of (by omega) rfl rfl
  have timeout : be16 (i :: encodeStep r) 5 = r.timeout := be16_of (by omega) rfl rfl
  have cont : byteAt (i :: encodeStep r) 7 = (flagByte r.continueOn).toNat := rfl
  unfold parseStep
  simp only [action, operand, value, timeout, cont, Action.ofCode_code, flagOfCode_flagByte]
  rw [if_pos (by simp only [Bool.and_eq_true, Bool.or_eq_true, decide_eq_true_eq]; omega), indexOfByte_getD h1]

/-- A watch entry in the ranges of Table 8-3. -/
structure WatchEntry.Loadable (w : WatchEntry) : Prop where
  node : w.node ≤ 127
  mask : w.mask ≤ 127
  kind : ∀ k, w.kind = some k → k < 256

theorem WatchDir.ofCode_code (d : WatchDir) : WatchDir.ofCode (byte d.code).toNat = some d := by cases d <;> rfl

theorem parseWatch_loadable {args : List Byte} {w : WatchEntry} (h : parseWatch args = some w) : w.Loadable := by
  unfold parseWatch at h
  split at h
  · dsimp only at h
    split at h
    · next hr =>
      cases h
      simp only [Bool.and_eq_true, decide_eq_true_eq] at hr
      obtain ⟨⟨h1, h2⟩, h3⟩ := hr
      refine ⟨h1, h2, fun k hk => ?_⟩
      dsimp only at hk
      split at hk
      · cases hk
      · cases hk; omega
    · cases h
  · cases h

theorem parseWatch_encode {w : WatchEntry} (h : w.Loadable) (i : Byte) : parseWatch (i :: encodeWatch w) = some w := by
  obtain ⟨h1, h2, h3⟩ := h
  have hk : w.kind.getD 256 ≤ 256 ∧ (if w.kind.getD 256 = 256 then none else some (w.kind.getD 256)) = w.kind := by
    cases hw : w.kind with
    | none => exact ⟨le_rfl, rfl⟩
    | some k =>
      have := h3 k hw
      exact ⟨this.le, if_neg (show k ≠ 256 by omega)⟩
  have enabled : byteAt (i :: encodeWatch w) 1 = (flagByte w.enabled).toNat := rfl
  have node : byteAt (i :: encodeWatch w) 2 = w.node := toNat_byte_of_lt (by omega)
  have mask : byteAt (i :: encodeWatch w) 3 = w.mask := toNat_byte_of_lt (by omega)
  have kind : be16 (i :: encodeWatch w) 4 = w.kind.getD 256 := be16_of (by omega) rfl rfl
  have dir : byteAt (i :: encodeWatch w) 6 = (byte w.dir.code).toNat := rfl
  have freeze : byteAt (i :: encodeWatch w) 7 = (flagByte w.freeze).toNat := rfl
  unfold parseWatch
  simp only [enabled, node, mask, kind, dir, freeze, WatchDir.ofCode_code, flagOfCode_flagByte, hk.2]
  rw [if_pos (by simp only [Bool.and_eq_true, decide_eq_true_eq]; omega)]

/-! ### Point records -/

/-- Stretch fields in the ranges of Table 1-2. -/
structure Stretch.Loadable (st : Stretch) : Prop where
  bore : 100 ≤ st.bore ∧ st.bore ≤ 20000
  umax : 100 ≤ st.umax ∧ st.umax ≤ 8000
  source : IndexOk st.source

/-- The optional part in the ranges of Table 1-2; a MAINLINE valve has no trap reference (R4). -/
def Part.Loadable : Part → Prop
  | .trap _ => True
  | .valve v => v.approach ≤ 5000 ∧ v.clearance ≤ 500 ∧ 5 ≤ v.travel ∧ v.travel ≤ 900 ∧ IndexOk v.trapRef ∧
      (v.role = .mainline → v.trapRef = none)
  | .detector channel holdOff => channel ≤ 3 ∧ holdOff ≤ 600
  | .meter hold => hold ≤ 600
  | .endPoint => True

/-- A point record in the ranges of Table 1-1. -/
structure Point.Loadable (p : Point) : Prop where
  chainage : p.chainage ≤ 400000
  node : ∀ n, p.node = some n → 1 ≤ n ∧ n ≤ 126
  noNode : p.node = none → p.part.code = 1 ∨ p.part.code = 5
  endNode : p.part.code = 5 → p.node = none
  supervise : p.supervise = true → p.node.isSome = true
  stretch : ∀ st, p.stretch = some st → st.Loadable
  hasStretch : p.stretch = none ↔ p.part.code = 5
  part : p.part.Loadable

theorem parseStretch_loadable {bs : List Byte} {st : Stretch} (h : parseStretch bs = some st) : st.Loadable := by
  unfold parseStretch at h
  dsimp only at h
  split at h
  · next hr =>
    cases h
    rw [Bool.and_eq_true, Bool.and_eq_true, Bool.and_eq_true, Bool.and_eq_true] at hr
    simp only [decide_eq_true_eq] at hr
    obtain ⟨⟨⟨⟨h1, h2⟩, h3⟩, h4⟩, h5⟩ := hr
    exact ⟨⟨h1, h2⟩, ⟨h3, h4⟩, indexOfByte_ok h5⟩
  · cases h

theorem parsePart_loadable {kind : Nat} {bs : List Byte} {p : Part} (h : parsePart kind bs = some p) :
    p.code = kind ∧ p.Loadable := by
  unfold parsePart at h
  split at h
  · obtain ⟨role, -, rfl⟩ := Option.map_eq_some_iff.1 h
    exact ⟨rfl, trivial⟩
  · split at h
    · cases h
    dsimp only at h
    split at h
    · next hr =>
      cases h
      rw [Bool.and_eq_true, Bool.and_eq_true, Bool.and_eq_true, Bool.and_eq_true] at hr
      simp only [decide_eq_true_eq] at hr
      obtain ⟨⟨⟨⟨h1, h2⟩, h3⟩, h4⟩, h5⟩ := hr
      refine ⟨rfl, h1, h2, h3, h4, ?_, fun e => if_pos e⟩
      dsimp only
      split
      · exact nofun
      · exact indexOfByte_ok h5
    · cases h
  · split at h
    · next hr =>
      cases h
      simp only [Bool.and_eq_true, decide_eq_true_eq] at hr
      exact ⟨rfl, hr⟩
    · cases h
  · split at h
    · next hr => cases h; exact ⟨rfl, hr⟩
    · cases h
  · cases h; exact ⟨rfl, trivial⟩
  · cases h

theorem pointNode_spec {kind n : Nat} {o : Option Nat} (h : pointNode kind n = some o) :
    (∀ m, o = some m → 1 ≤ m ∧ m ≤ 126) ∧ (o = none → kind = 1 ∨ kind = 5) ∧ (kind = 5 → o = none) := by
  unfold pointNode at h
  split at h
  · cases h
  next hn =>
  split at h
  · next hk => cases h; exact ⟨nofun, fun _ => .inr hk, fun _ => rfl⟩
  next hk =>
  split at h
  · split at h
    · next h1 => cases h; exact ⟨nofun, fun _ => .inl h1, fun e => absurd e hk⟩
    · cases h
  · next h0 =>
    cases h
    refine ⟨fun m e => ?_, nofun, fun e => absurd e hk⟩
    cases e
    omega

theorem parsePoint_loadable {bs : List Byte} {p : Point} (h : parsePoint bs = some p) : p.Loadable := by
  unfold parsePoint at h
  dsimp only at h
  split at h
  · next node sup part hn _ hp =>
    obtain ⟨code, loadable⟩ := parsePart_loadable hp
    obtain ⟨range, absent, atEnd⟩ := pointNode_spec hn
    have supervised : (sup && node.isSome) = true → node.isSome = true := fun e => (Bool.and_eq_true _ _ ▸ e).2
    rw [← code] at absent atEnd
    split at h
    · cases h
    next hc =>
    split at h
    · next hk =>
      cases h
      exact ⟨not_lt.1 hc, range, absent, atEnd, supervised, nofun, ⟨fun _ => code.trans hk, fun _ => rfl⟩, loadable⟩
    next hk =>
    split at h
    · next st hst =>
      cases h
      refine ⟨not_lt.1 hc, range, absent, atEnd, supervised, fun x e => ?_, ⟨nofun, fun e => absurd (code ▸ e) hk⟩, loadable⟩
      cases e
      exact parseStretch_loadable hst
    · cases h
  · cases h

/-- The first seven bytes of a point's layout. -/
theorem encodePoint_eq (p : Point) : encodePoint p =
    byte p.part.code :: byte (p.chainage / 16777216) :: byte (p.chainage / 65536) :: byte (p.chainage / 256) ::
      byte p.chainage :: optByteZero p.node :: flagByte p.supervise :: (encodeStretch p.stretch ++ encodePart p.part) := rfl

theorem parseStretch_encode {p : Point} {st : Stretch} (hst : p.stretch = some st) (h : st.Loadable) :
    parseStretch (encodePoint p) = some st := by
  obtain ⟨⟨h1, h2⟩, ⟨h3, h4⟩, h5⟩ := h
  obtain ⟨hop, hin⟩ := optByte_toNat h5
  rw [encodePoint_eq, hst]
  unfold parseStretch
  rw [show be16 (_ :: _ :: _ :: _ :: _ :: _ :: _ :: (encodeStretch (some st) ++ encodePart p.part)) 7 = st.bore from
      be16_of (by omega) rfl rfl,
    show be16 (_ :: _ :: _ :: _ :: _ :: _ :: _ :: (encodeStretch (some st) ++ encodePart p.part)) 9 = st.umax from
      be16_of (by omega) rfl rfl,
    show byteAt (_ :: _ :: _ :: _ :: _ :: _ :: _ :: (encodeStretch (some st) ++ encodePart p.part)) 11 = st.source.getD 255 from hop]
  dsimp only
  rw [if_pos (by simp only [Bool.and_eq_true, Bool.or_eq_true, decide_eq_true_eq]; omega), indexOfByte_getD h5]

theorem TrapRole.ofCode_code (r : TrapRole) : TrapRole.ofCode (byte r.code).toNat = some r := by cases r <;> rfl

theorem ValveRole.ofCode_code (r : ValveRole) : ValveRole.ofCode (byte r.code).toNat = some r := by cases r <;> rfl

/-- The part stands behind seven bytes and the five of the stretch. -/
theorem parsePart_encode {p : Point} (hs : p.stretch = none ↔ p.part.code = 5) (h : p.part.Loadable) :
    parsePart p.part.code (encodePoint p) = some p.part := by
  rw [encodePoint_eq]
  obtain ⟨chainage, node, supervise, stretch, part⟩ := p
  dsimp only at *
  cases part with
  | endPoint => rfl
  | trap role =>
    cases stretch with
    | none => exact absurd (hs.1 rfl) (by simp [Part.code])
    | some st => exact congrArg (Option.map Part.trap) (TrapRole.ofCode_code role)
  | detector channel holdOff =>
    cases stretch with
    | none => exact absurd (hs.1 rfl) (by simp [Part.code])
    | some st =>
      obtain ⟨h1, h2⟩ := h
      have hc : (byte channel).toNat = channel := toNat_byte_of_lt (by omega)
      have hh : be16 (put16 holdOff) 0 = holdOff := be16_of (by omega) rfl rfl
      show (if (byte channel).toNat ≤ 3 && be16 (put16 holdOff) 0 ≤ 600 then
        some (Part.detector (byte channel).toNat (be16 (put16 holdOff) 0)) else none) = _
      rw [hc, hh, if_pos (by simp only [Bool.and_eq_true, decide_eq_true_eq]; omega)]
  | meter hold =>
    cases stretch with
    | none => exact absurd (hs.1 rfl) (by simp [Part.code])
    | some st =>
      have hold600 : hold ≤ 600 := h
      have hh : be16 (put16 hold) 0 = hold := be16_of (by omega) rfl rfl
      show (if be16 (put16 hold) 0 ≤ 600 then some (Part.meter (be16 (put16 hold) 0)) else none) = _
      rw [hh, if_pos hold600]
  | valve v =>
    cases stretch with
    | none => exact absurd (hs.1 rfl) (by simp [Part.code])
    | some st =>
      obtain ⟨h1, h2, h3, h4, h5, h6⟩ := h
      obtain ⟨hop, hin⟩ := optByte_toNat h5
      generalize hbs : (_ :: _ : List Byte) = bs
      have role : byteAt bs 12 = (byte v.role.code).toNat := by rw [← hbs]; rfl
      have approach : be16 bs 13 = v.approach := by rw [← hbs]; exact be16_of (by omega) rfl rfl
      have clearance : be16 bs 15 = v.clearance := by rw [← hbs]; exact be16_of (by omega) rfl rfl
      have travel : be16 bs 17 = v.travel := by rw [← hbs]; exact be16_of (by omega) rfl rfl
      have ref : byteAt bs 19 = v.trapRef.getD 255 := by rw [← hbs]; exact hop
      show (match ValveRole.ofCode (byteAt bs 12) with | none => none | some role => _) = _
      rw [role, ValveRole.ofCode_code]
      dsimp only
      rw [approach, clearance, travel, ref,
        if_pos (by simp only [Bool.and_eq_true, Bool.or_eq_true, decide_eq_true_eq]; omega), indexOfByte_getD h5]
      have mainline : (if v.role = .mainline then none else v.trapRef) = v.trapRef := by
        split
        · next e => exact (h6 e).symm
        · rfl
      rw [mainline]

theorem pointNode_encode {p : Point} (h : p.Loadable) : pointNode p.part.code (optByteZero p.node).toNat = some p.node := by
  unfold pointNode
  cases hn : p.node with
  | none =>
    obtain e | e := h.noNode hn <;> rw [e] <;> rfl
  | some n =>
    obtain ⟨low, high⟩ := h.node n hn
    have hne : p.part.code ≠ 5 := fun e => by have := h.endNode e; rw [hn] at this; cases this
    have hb : (optByteZero (some n)).toNat = n := toNat_byte_of_lt (show n < 256 by omega)
    rw [hb, if_neg (by omega), if_neg hne, if_neg (by omega)]

theorem Part.code_lt (p : Part) : p.code < 256 := by cases p <;> simp [Part.code]

theorem parsePoint_encode {p : Point} (h : p.Loadable) : parsePoint (encodePoint p) = some p := by
  have kind : byteAt (encodePoint p) 0 = p.part.code := toNat_byte_of_lt p.part.code_lt
  have chainage : be32 (encodePoint p) 1 = p.chainage := be32_of (by have := h.chainage; omega) rfl rfl rfl rfl
  have node : byteAt (encodePoint p) 5 = (optByteZero p.node).toNat := rfl
  have flag : byteAt (encodePoint p) 6 = (flagByte p.supervise).toNat := rfl
  have sup : (p.supervise && p.node.isSome) = p.supervise := by
    cases hs : p.supervise
    · rfl
    · exact (Bool.true_and _).trans (h.supervise hs)
  unfold parsePoint
  dsimp only
  rw [kind, chainage, node, flag, pointNode_encode h, flagOfCode_flagByte, parsePart_encode h.hasStretch h.part]
  dsimp only
  rw [if_neg (not_lt.2 h.chainage), sup]
  split
  · next e => rw [← h.hasStretch.2 e]
  · next e =>
    obtain ⟨st, hst⟩ := Option.ne_none_iff_exists'.1 fun hn => e (h.hasStretch.1 hn)
    rw [parseStretch_encode hst (h.stretch st hst)]
    dsimp only
    rw [← hst]

theorem encodePoint_length {p : Point} (h : p.stretch = none ↔ p.part.code = 5) :
    pointArgLength p.part.code = some ((encodePoint p).length + 1) := by
  rw [encodePoint_eq]
  obtain ⟨chainage, node, supervise, stretch, part⟩ := p
  dsimp only at *
  cases stretch with
  | none =>
    have e := h.1 rfl
    cases part
    case endPoint => rfl
    all_goals cases e
  | some st =>
    cases part
    case endPoint => cases h.2 rfl
    all_goals rfl

/-- Settles O9: each parser accepts records in range alone, and such a record reads back. -/
theorem tableRecordsReadBack : Obligations.TableRecordsReadBack :=
  ⟨fun _ _ h => have ok := parsePoint_loadable h; ⟨parsePoint_encode ok, encodePoint_length ok.hasStretch⟩,
    fun _ _ h => parseClass_encode (parseClass_loadable h), fun _ _ h => parseProgram_encode (parseProgram_loadable h),
    fun _ _ h => parseStep_encode (parseStep_loadable h), fun _ _ h => parseWatch_encode (parseWatch_loadable h)⟩

/-! ### Telegrams -/

theorem mkFrame_eq (dest source kind : Nat) (tag : Byte) (payload : List Byte) : mkFrame dest source kind tag payload =
    ([byte dest, byte source, byte kind, tag, byte payload.length] ++ payload) ++
      put16 (crc ([byte dest, byte source, byte kind, tag, byte payload.length] ++ payload)).toNat := rfl

theorem mkFrame_length (dest source kind : Nat) (tag : Byte) (payload : List Byte) :
    (mkFrame dest source kind tag payload).length = payload.length + 7 := by
  simp [mkFrame_eq, put16]

/-- The two bytes of the check stand behind the body. -/
theorem be16_append (bs : List Byte) {n : Nat} (h : n < 65536) : be16 (bs ++ put16 n) bs.length = n := by
  have first : byteAt (bs ++ put16 n) bs.length = (byte (n / 256)).toNat := by simp [byteAt, List.getD, put16]
  have second : byteAt (bs ++ put16 n) (bs.length + 1) = (byte n).toNat := by simp [byteAt, List.getD, put16]
  exact be16_of h first second

/-- Settles O8. -/
theorem madeTelegramsReadBack : Obligations.MadeTelegramsReadBack := by
  intro dest source kind tag payload hd hs hs' hk hp f
  have length : f.length = payload.length + 7 := mkFrame_length ..
  have dest_eq : frameDest f = dest := toNat_byte_of_lt (by omega)
  have source_eq : frameSource f = source := toNat_byte_of_lt (by omega)
  have length_eq : frameLength f = payload.length := toNat_byte_of_lt (by omega)
  have payload_eq : framePayload f = payload := by
    unfold framePayload
    rw [length_eq]
    exact List.take_left
  refine ⟨?_, length, dest_eq, source_eq, toNat_byte_of_lt (by omega), rfl, payload_eq⟩
  have check : crc (f.take (f.length - 2)) = BitVec.ofNat 16 (be16 f (f.length - 2)) := by
    let body : List Byte := [byte dest, byte source, byte kind, tag, byte payload.length] ++ payload
    have hf : f = body ++ put16 (crc body).toNat := rfl
    have hb : f.length - 2 = body.length := by rw [length]; simp [body]
    rw [hb, hf, List.take_left, be16_append _ (crc body).isLt, BitVec.ofNat_toNat, BitVec.setWidth_eq]
  unfold frameBad
  rw [length_eq, source_eq, check, length]
  simp
  omega

end Sys2Proof.Machine
end

section
/-! PROOF. Conditions with their alerts, the check, and what a bad telegram leaves (O10, O11). -/

namespace Sys2Proof.Machine

variable {s : State}

/-! ### Conditions (O10) -/

theorem condBit_bit {w : BitVec 13} {c : Nat} (h : w.getLsbD c = true) : w ||| condBit c = w := by
  refine BitVec.eq_of_getLsbD_eq fun i hi => ?_
  by_cases e : i = c
  · subst e; simp [h]
  · have : (condBit c).getLsbD i = false := by
      simp only [condBit, BitVec.getLsbD_shiftLeft, BitVec.getLsbD_one]
      by_cases hlt : i < c
      · simp [hlt]
      · simp [show i - c ≠ 0 by omega]
    simp [this]

/-- Raising a set flag changes nothing (R181). -/
theorem raise_of_set {c : Nat} (h : s.mgmt.conditions.getLsbD c = true) : raise c s = s := by
  unfold raise
  rw [condBit_bit h, if_pos h]

/-- Raising a clear flag sets it and hands the rise to the making of alerts (R181, R183). -/
theorem raise_of_clear {c : Nat} (h : s.mgmt.conditions.getLsbD c = false) :
    raise c s =
      { s with
        mgmt := { s.mgmt with conditions := s.mgmt.conditions ||| condBit c }
        portA := { s.portA with
          alert := alertAfterRise s.mgmt.config s.lines.nodeNumber.isSome s.tracker.clock c (s.mgmt.conditions ||| condBit c)
            s.portA.alert } } := by
  unfold raise
  rw [h]
  rfl

theorem conditionWord_condBit {c : Nat} (h : c < 13) : conditionWord (condBit c) = (condBit c).setWidth 16 ||| 0x8000#16 := by
  interval_cases c <;> rfl

theorem alertAfterRise_eq {c : Nat} (h : c < 13) (cfg : Config) (node : Option Nat) (clock : BitVec 32) (w : BitVec 13)
    (old : Option Alert) :
    alertAfterRise cfg node.isSome clock c w old =
      if cfg.alertEnables.getLsbD c = true ∧ cfg.alertNode ≠ 0 ∧ node ≠ none then
        some (match old with
          | none => { dest := cfg.alertNode, word := conditionWord w, clock := clock }
          | some a => { dest := a.dest, word := a.word ||| ((condBit c).setWidth 16 ||| 0x8000#16), clock := a.clock })
      else old := by
  unfold alertAfterRise
  simp only [conditionWord_condBit h, Bool.and_eq_true, decide_eq_true_eq, Option.isSome_iff_ne_none, and_assoc]
  cases old <;> rfl

/-- The summary flag is bit 15 (R181). -/
theorem conditionWord_toNat {w : BitVec 13} (h : w ≠ 0#13) : (conditionWord w).toNat = 32768 + w.toNat := by
  have lt := w.isLt
  unfold conditionWord
  rw [if_neg h, BitVec.toNat_or, BitVec.toNat_setWidth, Nat.mod_eq_of_lt (by omega), Nat.or_comm]
  exact (Nat.two_pow_add_eq_or_of_lt (i := 15) (b := w.toNat) (by omega) 1).symm

/-- Settles O10. -/
theorem conditionsRiseAndAlert : Obligations.ConditionsRiseAndAlert := by
  refine ⟨fun c s _ h => raise_of_set h, fun c s hc h => ?_, rfl, fun w hw => ?_⟩
  · rw [raise_of_clear h, alertAfterRise_eq hc] <;> rfl
  · have lt := w.isLt
    have pos : w.toNat ≠ 0 := fun e => hw (BitVec.eq_of_toNat_eq e)
    rw [conditionWord_toNat hw]
    omega

/-! ### The check (O11) -/

/-- One bit of a byte enters the shift register (R76). -/
def crcStep (b : Byte) (r : BitVec 16) (i : Nat) : BitVec 16 :=
  if r.msb = b.getLsbD (7 - i) then r <<< 1 else (r <<< 1) ^^^ 0x1021#16

theorem crcBit_xor (r x : BitVec 16) :
    crcBit (r ^^^ x) = (if r.msb = x.msb then r <<< 1 else (r <<< 1) ^^^ 0x1021#16) ^^^ (x <<< 1) := by
  unfold crcBit
  rw [BitVec.msb_xor, BitVec.shiftLeft_xor_distrib]
  cases r.msb <;> cases x.msb <;> simp [BitVec.xor_assoc, BitVec.xor_comm (x <<< 1)]

/-- A byte that enters at once enters bit by bit: what of it is still to come stands in the upper bits. -/
theorem crcBit_shifted (b : Byte) (r : BitVec 16) {i : Nat} (hi : i < 8) :
    crcBit (r ^^^ (b.setWidth 16 <<< (8 + i))) = crcStep b r i ^^^ (b.setWidth 16 <<< (8 + (i + 1))) := by
  have msb : (b.setWidth 16 <<< (8 + i)).msb = b.getLsbD (7 - i) := by
    simp [BitVec.msb_eq_getLsbD_last, show ¬ 15 < 8 + i by omega, show 15 - (8 + i) = 7 - i by omega]
  rw [crcBit_xor, msb, ← BitVec.shiftLeft_add, crcStep, show 8 + i + 1 = 8 + (i + 1) from rfl]

theorem crcByte_eq (r : BitVec 16) (b : Byte) : crcByte r b = (List.range 8).foldl (crcStep b) r := by
  have gone : b.setWidth 16 <<< (8 + (7 + 1)) = 0#16 := BitVec.shiftLeft_eq_zero (by decide)
  show crcBit (crcBit (crcBit (crcBit (crcBit (crcBit (crcBit (crcBit (r ^^^ (b.setWidth 16 <<< (8 + 0)))))))))) = _
  rw [crcBit_shifted b _ (i := 0) (by decide), crcBit_shifted b _ (i := 1) (by decide), crcBit_shifted b _ (i := 2) (by decide),
    crcBit_shifted b _ (i := 3) (by decide), crcBit_shifted b _ (i := 4) (by decide), crcBit_shifted b _ (i := 5) (by decide),
    crcBit_shifted b _ (i := 6) (by decide), crcBit_shifted b _ (i := 7) (by decide), gone, BitVec.xor_zero]
  rfl

theorem crc_snoc (bs : List Byte) (b : Byte) : crc (bs ++ [b]) = (List.range 8).foldl (crcStep b) (crc bs) := by
  rw [← crcByte_eq]
  exact List.foldl_append

theorem frameBad_iff (f : Frame) : frameBad f = true ↔
    (f.length < 7 ∨ 55 < f.length) ∨ f.length ≠ byteAt f 4 + 7 ∨
      (crc (f.take (f.length - 2))).toNat ≠ byteAt f (f.length - 2) * 256 + byteAt f (f.length - 2 + 1) ∨
      (byteAt f 1 = 0 ∨ 127 ≤ byteAt f 1) := by
  have check : crc (f.take (f.length - 2)) ≠ BitVec.ofNat 16 (be16 f (f.length - 2)) ↔
      (crc (f.take (f.length - 2))).toNat ≠ byteAt f (f.length - 2) * 256 + byteAt f (f.length - 2 + 1) := by
    rw [Ne, ← BitVec.toNat_inj, BitVec.toNat_ofNat, Nat.mod_eq_of_lt (be16_lt ..)]
    rfl
  unfold frameBad frameLength frameSource
  simp only [Bool.or_eq_true, decide_eq_true_eq, or_assoc, check]

/-! ### What a bad telegram leaves (O11) -/

/-- A frame that ends on a listening port ends the receiving of that port, and is judged. -/
theorem receiveFrame_listening {p : Port} (h : s.listening p = true) (f : Frame) (take : Frame → State → State) :
    receiveFrame p f take s = if frameBad f then badTelegram p (s.frameEnded p) else take f (s.frameEnded p) := by
  have listening : ((s.link p).abandoned && !(s.link p).receiving) = false := by
    unfold State.listening at h
    cases ha : (s.link p).abandoned <;> cases hr : (s.link p).receiving <;> simp_all
  unfold receiveFrame
  rw [listening]
  rfl

/-- The end of an abandoned frame clears the mark alone. -/
theorem receiveFrame_abandoned {p : Port} (h : s.listening p = false) (f : Frame) (take : Frame → State → State) :
    receiveFrame p f take s = s.setLink p { s.link p with abandoned := false } := by
  have abandoned : ((s.link p).abandoned && !(s.link p).receiving) = true := by
    unfold State.listening at h
    cases ha : (s.link p).abandoned <;> cases hr : (s.link p).receiving <;> simp_all
  unfold receiveFrame
  rw [abandoned]
  rfl

theorem exec_receive (hp : s.powered = true) (p : Port) (f : Frame) :
    exec (receive p f) s = .next (receiveFrame p f (match p with | .a => takeOnA | .b => takeOnB) s) := by
  cases p <;> exact live_eq hp _

theorem updLink_setLink (p : Port) (l : Link) (g : Link → Link) : (s.setLink p l).updLink p g = s.setLink p (g l) := by
  cases p <;> rfl

/-- Settles O11. -/
theorem badTelegramsAreCounted : Obligations.BadTelegramsAreCounted := by
  refine ⟨fun f => ?_, rfl, crc_snoc, fun p s hp => ⟨fun f hl hb => ?_, fun f hl => ?_, fun hr => ?_, fun hr => ?_⟩⟩
  · rw [frameBad_iff]
    by_cases hlen : f.length < 7
    · simp [hlen]
    · rw [show f.length - 2 + 1 = f.length - 1 by omega]
  · rw [exec_receive hp, receiveFrame_listening hl, if_pos hb]
    cases p <;> rfl
  · rw [exec_receive hp, receiveFrame_abandoned hl]
  · refine (live_eq hp _).trans ?_
    unfold startFrame
    rw [hr]
    rfl
  · refine (live_eq hp _).trans ?_
    unfold startFrame
    rw [hr]
    cases p <;> rfl

end Sys2Proof.Machine
end

section
/-! PROOF. What the ports take and what Port A grants (O12, O13, O14, O16). -/

namespace Sys2Proof.Machine

variable {s : State}

/-! ### The watch list and the log (O14) -/

/-- No entry hits: nothing happens (R170). -/
theorem watchTelegram_none {up : Bool} {f : Frame}
    (h : ∀ w ∈ s.tables.watch, w.hits up (if up then frameSource f else frameDest f) (frameKind f) = false) :
    watchTelegram up f s = s := by
  unfold watchTelegram
  dsimp only
  rw [List.findIdx?_eq_none_iff.2 h]

/-- The first entry that hits acts (R170). -/
theorem watchTelegram_some {up : Bool} {f : Frame} {before after : List WatchEntry} {w : WatchEntry}
    (hs : s.tables.watch = before ++ w :: after)
    (hb : ∀ x ∈ before, x.hits up (if up then frameSource f else frameDest f) (frameKind f) = false)
    (hw : w.hits up (if up then frameSource f else frameDest f) (frameKind f) = true) :
    watchTelegram up f s =
      let logged := offer .watchHit 0 (if up then frameSource f else frameDest f) (before.length + if up then 16 else 0)
        (frameKind f * 256 + (frameTag f).toNat) s
      if w.freeze then freezeLog logged else logged := by
  have idx : s.tables.watch.findIdx? (fun w => w.hits up (if up then frameSource f else frameDest f) (frameKind f)) =
      some before.length := by
    rw [hs, List.findIdx?_append, List.findIdx?_eq_none_iff.2 hb, List.findIdx?_cons, if_pos hw,
      Option.none_or, Option.map_some, Nat.zero_add]
  have entry : s.tables.watch.getD before.length WatchEntry.initial = w := by
    rw [hs, List.getD, List.getElem?_append_right le_rfl, Nat.sub_self]
    rfl
  unfold watchTelegram
  dsimp only
  rw [idx]
  dsimp only
  rw [entry]

theorem WatchEntry.hits_iff (w : WatchEntry) (up : Bool) (node kind : Nat) : w.hits up node kind = true ↔
    w.enabled = true ∧ (node ^^^ w.node) &&& w.mask = 0 ∧ (w.kind = none ∨ w.kind = some kind) ∧
      (w.dir = .either ∨ (w.dir = .up ∧ up = true) ∨ (w.dir = .down ∧ up = false)) := by
  have dir : w.dir.takes up = true ↔ (w.dir = .either ∨ (w.dir = .up ∧ up = true) ∨ (w.dir = .down ∧ up = false)) := by
    cases w.dir <;> simp [WatchDir.takes]
  have hkind : w.kind.elim true (fun k => k == kind) = true ↔ (w.kind = none ∨ w.kind = some kind) := by
    cases w.kind <;> simp
  unfold WatchEntry.hits
  rw [Bool.and_eq_true, Bool.and_eq_true, Bool.and_eq_true, dir, hkind, beq_iff_eq, and_assoc, and_assoc]

theorem LogKind.isTrack_iff (k : LogKind) : k.isTrack = true ↔
    k ∈ ([.runInserted, .runAdopted, .runReceived, .runExited, .runAbandoned, .runRepositioned, .passageMatched, .passageOrphan,
      .detectorMissed, .runLost, .anomalyAlarm] : List LogKind) := by cases k <;> decide

theorem Circle.next_eq {c : Circle} {cap : Nat} (hw : c.write < cap) (hv : c.valid ≤ cap) :
    c.next cap = { write := if c.write + 1 = cap then 0 else c.write + 1, valid := min cap (c.valid + 1) } := by
  unfold Circle.next
  congr 1
  · split <;> split <;> omega
  · split <;> omega

/-- Settles O14. -/
theorem watchListActsOnFirstHit : Obligations.WatchListActsOnFirstHit := by
  refine ⟨fun up f s => ⟨fun h => ?_, fun before w after hs hb hw => ?_⟩, fun mode r g => ?_, fun s => ⟨fun h => ?_, fun h g => ?_⟩⟩
  · exact watchTelegram_none fun w hw => Bool.eq_false_iff.2 fun e => h w hw ((w.hits_iff ..).1 e)
  · exact watchTelegram_some hs (fun x hx => Bool.eq_false_iff.2 fun e => hb x hx ((x.hits_iff ..).1 e)) ((w.hits_iff ..).2 hw)
  · dsimp only
    rw [← LogKind.isTrack_iff]
    unfold EventLog.offer
    refine ⟨fun h => ?_, fun hf h hw hv => ?_, fun hf hm ht hw hv => ?_, fun hf hm ht hw hv => ?_⟩
    · cases hf : g.frozen
      · rw [hf] at h
        obtain h | rfl | ⟨rfl, ht⟩ | ⟨rfl, ht⟩ := h
        · cases h
        · rfl
        · simp [Bool.eq_false_iff.2 ht]
        · simp [ht]
      · rfl
    · rw [hf, ← Circle.next_eq hw hv]
      obtain ⟨rfl, ht⟩ | ⟨rfl, ht⟩ := h
      · simp [ht]
      · simp [Bool.eq_false_iff.2 ht]
    · rw [hf, ← Circle.next_eq hw hv, hm, ht]
      rfl
    · rw [hf, ← Circle.next_eq hw hv, hm, Bool.eq_false_iff.2 ht]
      rfl
  · unfold freezeLog
    rw [if_pos (by simpa using h)]
  · obtain e | ⟨-, -, e⟩ := freezeLog_cases s
    · unfold freezeLog at e ⊢
      rw [if_neg (by simp [h, g])]
      rfl
    · exact e

/-! ### Port A (O12, O16) -/

theorem live_next {f : State → State} {t : State} (hp : s.powered = true) (h : f s = t) : live f s = .next t := by
  rw [live_eq hp, h]

/-- A good frame that ends on a listening port is taken. -/
theorem receiveFrame_good {p : Port} {f : Frame} (hl : s.listening p = true) (hf : frameBad f = false)
    (take : Frame → State → State) : receiveFrame p f take s = take f (s.frameEnded p) := by
  rw [receiveFrame_listening hl, if_neg (by simp [hf])]

theorem State.inputSettled_of_known {r : Request} (h : r.known = true) (w : Option Request) :
    (s.setInput (some ⟨r, .unserved⟩) w).inputSettled = true := h

section PortA
variable {f : Frame}

/-- Without a free answer place a telegram waits (R82 step 1). -/
theorem takeOnA_noPlace (h : s.freePlaces = 0) : takeOnA f s = sendReply .a .wait s := if_pos h

theorem takeOnA_own (h : 0 < s.freePlaces) (hn : s.lines.nodeNumber = some (frameDest f)) :
    takeOnA f s = if frameKind f = kindRequest then intake f (sendReply .a .accept s) else sendReply .a .accept s := by
  unfold takeOnA
  rw [if_neg (by omega), if_pos hn]

theorem takeOnA_other (h : 0 < s.freePlaces) (hn : s.lines.nodeNumber ≠ some (frameDest f)) :
    takeOnA f s =
      if s.portA.down.length < 16 then (watchTelegram false f (sendReply .a .accept s)).setDown (s.portA.down ++ [f])
      else if s.mgmt.config.downDrop then raise condDownOverflow (watchTelegram false f (sendReply .a .accept s))
      else sendReply .a .wait s := by
  have down : (watchTelegram false f (sendReply .a .accept s)).portA.down = s.portA.down :=
    (watchTelegram_course _ false f).portsKept.down
  unfold takeOnA
  rw [if_neg (by omega), if_neg hn]
  dsimp only
  rw [down]
  rfl

/-- The request that a MGMT REQUEST carries. -/
def requestOf (f : Frame) : Request := { source := frameSource f, tag := frameTag f, payload := framePayload f }

theorem intake_denied (h : s.mgmt.config.managerNode ≠ 0) (h' : s.mgmt.config.managerNode ≠ frameSource f) :
    intake f s = answerRequest (requestOf f) stDenied [] false s := if_pos ⟨h, h'⟩

section Manages
variable (h : s.mgmt.config.managerNode = 0 ∨ s.mgmt.config.managerNode = frameSource f)
include h

theorem not_denied : ¬ (s.mgmt.config.managerNode ≠ 0 ∧ s.mgmt.config.managerNode ≠ frameSource f) :=
  fun ⟨h1, h2⟩ => h.elim h1 h2

theorem intake_busy (hv : s.mgmt.service.isSome = true) (hw : s.mgmt.waiting.isSome = true) :
    intake f s = answerRequest (requestOf f) stBusy [] false s := by
  obtain ⟨v, hv⟩ := Option.isSome_iff_exists.1 hv
  obtain ⟨w, hw⟩ := Option.isSome_iff_exists.1 hw
  unfold intake
  dsimp only
  rw [if_neg (not_denied h), hv, hw]
  rfl

theorem intake_waits (hv : s.mgmt.service.isSome = true) (hw : s.mgmt.waiting = none) :
    intake f s = s.setInput s.mgmt.service (some (requestOf f)) := by
  obtain ⟨v, hv⟩ := Option.isSome_iff_exists.1 hv
  unfold intake
  dsimp only
  rw [if_neg (not_denied h), hv, hw]
  rfl

theorem intake_serves (hv : s.mgmt.service = none) (hk : (requestOf f).known = true) :
    intake f s = s.setInput (some { request := requestOf f, phase := .unserved }) s.mgmt.waiting := by
  unfold intake
  dsimp only
  rw [if_neg (not_denied h), hv]
  exact settleInput_settled (State.inputSettled_of_known hk _)

end Manages

theorem answerRequest_own (hn : s.lines.nodeNumber = some (frameDest f)) (status : Nat) :
    answerRequest (requestOf f) status [] false s =
      s.setAnswers (s.portA.answers ++
        [{ frame := mkFrame (frameSource f) (frameDest f) 65 (frameTag f)
             [byte ((framePayload f).head?.elim 0 BitVec.toNat), byte status]
           restart := false }]) := by
  have code : (requestOf f).code.getD 0 = (framePayload f).head?.elim 0 BitVec.toNat := by
    unfold Request.code requestOf
    cases (framePayload f).head? <;> rfl
  unfold answerRequest addAnswer answerFrame State.ownNode
  rw [hn, code]
  rfl

end PortA

/-- Settles O12. -/
theorem portAReceives : Obligations.PortAReceives := by
  intro f s hp hl hf code request ok
  have good {t : State} (h : takeOnA f (s.frameEnded .a) = t) : exec (.portAReceive f) s = .next t :=
    live_next hp ((receiveFrame_good hl hf takeOnA).trans h)
  have own (h : 0 < s.freePlaces) (hn : s.lines.nodeNumber = some (frameDest f)) := takeOnA_own (s := s.frameEnded .a) h hn
  have other (h : 0 < s.freePlaces) (hn : s.lines.nodeNumber ≠ some (frameDest f)) :=
    takeOnA_other (s := s.frameEnded .a) h hn
  have reply (hn : s.lines.nodeNumber = some (frameDest f)) := answerRequest_own (s := ok) hn
  refine ⟨fun h => good (takeOnA_noPlace (s := s.frameEnded .a) h),
    fun h hn => ⟨fun hk => ?_, fun hk hm hm' => ?_, fun hk hm => ⟨fun hv hw => ?_, fun hv hw => ?_, fun hv hknown => ?_⟩⟩,
    fun h hn => ⟨fun hd => ?_, fun hd hdrop => ?_, fun hd hdrop => ?_⟩⟩
  · exact good ((own h hn).trans (if_neg hk))
  · exact good (((own h hn).trans (if_pos hk)).trans ((intake_denied (s := ok) hm hm').trans (reply hn 2)))
  · exact good (((own h hn).trans (if_pos hk)).trans ((intake_busy (s := ok) hm hv hw).trans (reply hn 1)))
  · exact good (((own h hn).trans (if_pos hk)).trans (intake_waits (s := ok) hm hv hw))
  · exact good (((own h hn).trans (if_pos hk)).trans (intake_serves (s := ok) hm hv hknown))
  · exact good ((other h hn).trans (if_pos hd))
  · exact good ((other h hn).trans ((if_neg (not_lt.2 hd)).trans (if_neg (Bool.eq_false_iff.1 hdrop))))
  · exact good ((other h hn).trans ((if_neg (not_lt.2 hd)).trans (if_pos hdrop)))

/-- Settles O16. -/
theorem portAGrantsInFixedOrder : Obligations.PortAGrantsInFixedOrder := by
  intro s hp
  refine ⟨fun h => live_next hp (if_pos h), fun h => ?_⟩
  have free : ¬ s.portA.link.tx.isSome = true := by
    show ¬ (s.link .a).tx.isSome = true
    simp [h]
  refine ⟨fun a rest ha => ?_, fun al ha hal => ?_, fun f rest ha hal hu => ?_, fun ha hal hu => ?_⟩ <;>
    refine live_next hp ((if_neg free).trans ?_)
  · rw [ha]; rfl
  · rw [ha, hal]; rfl
  · rw [ha, hal, hu]; rfl
  · rw [ha, hal, hu]

/-! ### Port B (O13) -/

section PortB
variable {f : Frame}

theorem takeOnB_own (hn : s.lines.nodeNumber = some (frameDest f)) : takeOnB f s = examine f (sendReply .b .accept s) := if_pos hn

theorem takeOnB_other (hn : s.lines.nodeNumber ≠ some (frameDest f)) :
    takeOnB f s =
      if s.portB.up.length < 24 then (examine f (sendReply .b .accept s)).setUp (s.portB.up ++ [f])
      else if s.mgmt.config.upDrop then raise condUpOverflow (examine f (sendReply .b .accept s))
      else sendReply .b .wait s := by
  have up : (examine f (sendReply .b .accept s)).portB.up = s.portB.up := (examine_course f).portsKept.up
  unfold takeOnB
  rw [if_neg hn]
  dsimp only
  rw [up]
  rfl

/-- Hearing a node leaves the tables. -/
theorem hearNode_tables (n : Nat) : (hearNode n s).tables = s.tables := by
  unfold hearNode
  split
  · rfl
  · dsimp only
    split <;> rfl

theorem hearNode_map (n : Nat) : (hearNode n s).map = s.map := by
  unfold State.map
  rw [hearNode_tables]

end PortB

/-- Settles O13. -/
theorem portBReceives : Obligations.PortBReceives := by
  refine ⟨fun f s hp hl hf => ?_, fun f s hm => ?_, fun f s hm => ?_⟩
  · intro ok
    have good {t : State} (h : takeOnB f (s.frameEnded .b) = t) : exec (.portBReceive f) s = .next t :=
      live_next hp ((receiveFrame_good hl hf takeOnB).trans h)
    refine ⟨fun hn => good (takeOnB_own (s := s.frameEnded .b) hn), fun hn => ?_⟩
    have other := takeOnB_other (s := s.frameEnded .b) hn
    refine ⟨fun hu => good (other.trans (if_pos hu)),
      fun hu hdrop => good (other.trans ((if_neg (not_lt.2 hu)).trans (if_neg (Bool.eq_false_iff.1 hdrop)))),
      fun hu hdrop => good (other.trans ((if_neg (not_lt.2 hu)).trans (if_pos hdrop)))⟩
  · unfold examine
    rw [if_pos hm]
  · intro source payload heard leaves
    have open_ {u : State} (h : examineKind f heard = u) : leaves u := by
      show examine f s = _
      unfold examine
      rw [if_neg hm, ← h]
    have map : heard.map = s.map := hearNode_map _
    have detector (hk : frameKind f = 34) (hn : 3 ≤ payload.length) : examineKind f heard = examinePassage f heard := if_pos ⟨hk, hn⟩
    have valve (hk : frameKind f = 33) (hn : 4 ≤ payload.length) : examineKind f heard = examineValveState f heard := by
      unfold examineKind
      dsimp only
      rw [if_neg (by simp [hk, kindPassage]), if_neg (by simp [hk, kindFlowReport]), if_pos ⟨hk, hn⟩]
    refine ⟨fun p hk hn hd => ⟨fun hr => ?_, fun id hr => ?_⟩, fun hk hn => ?_, fun p hk hn hv => ?_, fun hk hn => ?_, fun h => ?_⟩ <;>
      refine open_ ?_
    · rw [detector hk hn]
      unfold examinePassage
      rw [map, hd]
      show (takePassage p payload heard).run.elim _ _ = _
      rw [hr]; rfl
    · rw [detector hk hn]
      unfold examinePassage
      rw [map, hd]
      show (takePassage p payload heard).run.elim _ _ = _
      rw [hr]; rfl
    · unfold examineKind
      dsimp only
      rw [if_neg (by simp [hk, kindPassage]), if_pos ⟨hk, hn⟩]
    · rw [valve hk hn]
      unfold examineValveState
      rw [map, hv]
    · unfold examineKind
      dsimp only
      rw [if_neg (by simp [hk, kindPassage]), if_neg (by simp [hk, kindFlowReport]), if_neg (by simp [hk, kindValveState]),
        if_pos ⟨hk, hn⟩]
    · obtain h | ⟨hk, h⟩ | ⟨hk, h⟩ | ⟨hk, h⟩ | ⟨hk, h⟩ := h
      · unfold examineKind
        simp [kindPassage, kindFlowReport, kindValveState, kindNodeState, h]
      · by_cases hn : 3 ≤ payload.length
        · rw [detector hk hn]
          unfold examinePassage
          rw [map, h.resolve_left (by omega)]
        · unfold examineKind
          simp [kindPassage, kindFlowReport, kindValveState, kindNodeState, hk, show ¬ 3 ≤ (framePayload f).length from hn]
      · unfold examineKind
        simp [kindPassage, kindFlowReport, kindValveState, kindNodeState, hk, show ¬ 4 ≤ (framePayload f).length from not_le.2 h]
      · by_cases hn : 4 ≤ payload.length
        · rw [valve hk hn]
          unfold examineValveState
          rw [map, h.resolve_left (by omega)]
        · unfold examineKind
          simp [kindPassage, kindFlowReport, kindValveState, kindNodeState, hk, show ¬ 4 ≤ (framePayload f).length from hn]
      · unfold examineKind
        simp [kindPassage, kindFlowReport, kindValveState, kindNodeState, hk, show ¬ 1 ≤ (framePayload f).length from not_le.2 h]

end Sys2Proof.Machine
end

section
/-! PROOF. Field reports change the records of their source (O15). -/

namespace Sys2Proof.Machine

variable {s : State}

theorem watchTelegram_reported (up : Bool) (f : Frame) : Reported s (watchTelegram up f s) := by
  unfold watchTelegram
  dsimp only
  split
  · exact .refl s
  · split
    · exact (offer_reported ..).trans (freezeLog_reported _)
    · exact offer_reported ..

/-- An index is among those with a property when its point has it. -/
theorem mem_indicesOf {m : List Point} {f : Point → Bool} {i : Nat} :
    i ∈ indicesOf m f ↔ ∃ p, m[i]? = some p ∧ f p = true := by
  unfold indicesOf
  rw [List.mem_filter, List.mem_range]
  constructor
  · rintro ⟨hi, hf⟩
    rw [List.getElem?_eq_getElem hi] at hf
    exact ⟨m[i], List.getElem?_eq_getElem hi, hf⟩
  · rintro ⟨p, hp, hf⟩
    obtain ⟨hi, -⟩ := List.getElem?_eq_some_iff.1 hp
    exact ⟨hi, by rw [hp]; exact hf⟩

/-- A detector's record belongs to a node when its point carries the node (R6). -/
theorem mem_pointsOfNode {m : List Point} {n : Nat} {f : Point → Bool} {i : Nat} (hi : i ∈ indicesOf m f) :
    i ∈ pointsOfNode m n f ↔ (m[i]?).bind Point.node = some n := by
  obtain ⟨p, hp, hf⟩ := mem_indicesOf.1 hi
  unfold pointsOfNode
  rw [mem_indicesOf, hp]
  simp [hf]

/-! ### Hearing -/

/-- The record of a node that is heard (R157). -/
def NodeRec.afterHearing (r : NodeRec) : NodeRec := { r with heard := true, missed := 0, silent := false }

theorem hearNode_eq (n : Nat) :
    hearNode n s =
      { s with
        matcher := { detectors := s.matcher.detectors.map (fun d =>
          if (s.node n).any NodeRec.silent = true ∧ d.point ∈ pointsOfNode s.map n Point.isDetector
          then { d with covered := true } else d) }
        scan := { s.scan with
          nodes := s.scan.nodes.map (fun r => if r.node = n then r.afterHearing else r)
          pollList := if (s.node n).isSome then s.scan.pollList.filter (fun m => m != n) else s.scan.pollList } } := by
  unfold hearNode
  cases hn : s.node n with
  | none =>
    have nodes : s.scan.nodes.map (fun r => if r.node = n then r.afterHearing else r) = s.scan.nodes := by
      refine (List.map_congr_left fun r hr => if_neg fun e => ?_).trans (List.map_id _)
      exact List.find?_eq_none.1 hn r hr (by simpa using e)
    simp [nodes]
  | some r =>
    cases hr : r.silent
    · simp [State.setPollList, State.updNode, State.setNodes, NodeRec.afterHearing, hr]
    · simp [State.setPollList, State.updNode, State.setNodes, NodeRec.afterHearing, hr, coverNode, State.setDetectors, State.map]

/-- A node without a record is in no poll list (R156). -/
theorem State.RecordsFollowMap.not_polled (h : s.RecordsFollowMap) {n : Nat} (hn : s.node n = none) : n ∉ s.scan.pollList := by
  obtain ⟨-, -, -, nodes, -, within⟩ := h
  intro hp
  have := within n hp
  rw [← nodes] at this
  obtain ⟨r, hr, e⟩ := List.mem_map.1 this
  exact List.find?_eq_none.1 hn r hr (by simpa using e)

theorem State.RecordsFollowMap.polled_after (h : s.RecordsFollowMap) (n : Nat) :
    (if (s.node n).isSome then s.scan.pollList.filter (fun m => m != n) else s.scan.pollList) =
      s.scan.pollList.filter (fun m => m != n) := by
  cases hn : s.node n with
  | some r => rfl
  | none =>
    refine (List.filter_eq_self.2 fun m hm => bne_iff_ne.2 ?_).symm
    rintro rfl
    exact h.not_polled hn hm

/-- The detectors that are covered again are those whose points carry the node. -/
theorem State.RecordsFollowMap.covered_after (h : s.RecordsFollowMap) (n : Nat) :
    s.matcher.detectors.map (fun d =>
        if (s.node n).any NodeRec.silent = true ∧ d.point ∈ pointsOfNode s.map n Point.isDetector
        then { d with covered := true } else d) =
      s.matcher.detectors.map (fun d =>
        if (s.node n).any NodeRec.silent = true ∧ (s.map[d.point]?).bind Point.node = some n
        then { d with covered := true } else d) := by
  refine List.map_congr_left fun d hd => ?_
  have point : d.point ∈ indicesOf s.map Point.isDetector := by
    have := h.2.1
    unfold detectorIndices at this
    rw [← this]
    exact List.mem_map_of_mem hd
  simp only [mem_pointsOfNode point]

/-! ### The other field reports -/

/-- Of the telegrams that are neither PASSAGE nor VALVE STATE two kinds report (Table 4-5). -/
theorem examineKind_report {f : Frame} (hv : frameKind f ≠ 33) (hp : frameKind f ≠ 34) (s : State) :
    examineKind f s =
      if frameKind f = 35 ∧ 4 ≤ (framePayload f).length then takeFlowReport (frameSource f) (framePayload f) s
      else if frameKind f = 36 ∧ 1 ≤ (framePayload f).length then takeNodeState (frameSource f) (framePayload f) s
      else s := by
  unfold examineKind
  dsimp only
  rw [if_neg (fun h => hp h.1)]
  refine if_congr Iff.rfl rfl ?_
  rw [if_neg (fun h => hv h.1)]
  rfl

/-- The reports leave everything but the flow and the node records. -/
theorem examineKind_report_frame {f : Frame} (hv : frameKind f ≠ 33) (hp : frameKind f ≠ 34) (s : State) :
    examineKind f s =
      { s with
        tracker := { s.tracker with flows := (examineKind f s).tracker.flows }
        scan := { s.scan with nodes := (examineKind f s).scan.nodes } } := by
  rw [examineKind_report hv hp]
  split
  · unfold takeFlowReport
    split <;> rfl
  split <;> rfl

theorem FlowRec.afterReport_good {payload : List Byte} (h : byteAt payload 3 = 0) (hold : Nat) (r : FlowRec) :
    r.afterReport hold payload =
      { r with
        q := if byteAt payload 2 = 0 then min 65000 (be16 payload 0) else 0
        rev := byteAt payload 2 != 0
        state := .live
        age := hold } := by
  unfold FlowRec.afterReport
  rw [if_neg (by simp [h])]
  by_cases h2 : byteAt payload 2 = 0 <;> simp [h2]

theorem FlowRec.afterReport_bad {payload : List Byte} (h : byteAt payload 3 ≠ 0) (hold : Nat) (r : FlowRec) :
    r.afterReport hold payload = r := if_pos h

theorem takeNodeState_node (n m : Nat) (payload : List Byte) : (takeNodeState n payload s).node m =
    if m = n then (s.node m).map (fun r => { r with health := Health.ofReport (byteAt payload 0) }) else s.node m :=
  s.node_updNode n m (fun r => { r with health := Health.ofReport (byteAt payload 0) }) (fun _ => rfl)

/-- A FLOW REPORT of GOOD quality changes its meter's record (R24). -/
theorem takeFlowReport_flow (n : Nat) (payload : List Byte) (p : Nat) :
    (takeFlowReport n payload s).flow p =
      if meterOfNode s.map n = some p ∧ byteAt payload 3 = 0 then
        (s.flow p).map (fun r =>
          { r with
            q := if byteAt payload 2 = 0 then min 65000 (be16 payload 0) else 0
            rev := byteAt payload 2 != 0
            state := .live
            age := (meterHold s.map p).getD 0 })
      else s.flow p := by
  unfold takeFlowReport
  cases hm : meterOfNode s.map n with
  | none => rfl
  | some q =>
    refine (s.flow_updFlow q p _ (FlowRec.afterReport_point _ payload)).trans ?_
    by_cases hq : p = q
    · subst hq
      rw [if_pos rfl]
      by_cases good : byteAt payload 3 = 0
      · rw [if_pos ⟨rfl, good⟩]
        exact congrArg (fun g => (s.flow p).map g) (funext (FlowRec.afterReport_good good _))
      · rw [if_neg (fun h => good h.2)]
        exact (congrArg (fun g => (s.flow p).map g) (funext (FlowRec.afterReport_bad good _))).trans Option.map_id'
    · rw [if_neg hq, if_neg (fun h => hq (Option.some.inj h.1).symm)]

/-- Settles O15. -/
theorem fieldReportsChangeTheirRecord : Obligations.FieldReportsChangeTheirRecord := by
  intro f s hp hl hf hn hm follow hv hp34
  generalize hsource : frameSource f = n
  have taken : exec (.portBReceive f) s =
      .next (watchTelegram true f (examineKind f (hearNode n (s.repliedTo .b .accept)))) := by
    refine live_next hp ((receiveFrame_good hl hf takeOnB).trans ((takeOnB_own (s := s.frameEnded .b) hn).trans ?_))
    rw [← hsource]
    exact congrArg (watchTelegram true f) (if_neg hm)
  refine ⟨_, taken, ?_⟩
  have watch := watchTelegram_reported (s := examineKind f (hearNode n (s.repliedTo .b .accept))) true f
  have report := examineKind_report_frame hv hp34 (hearNode n (s.repliedTo .b .accept))
  have heard := hearNode_eq (s := s.repliedTo .b .accept) n
  have map : (hearNode n (s.repliedTo .b .accept)).map = s.map := hearNode_map n
  have node (m : Nat) : (hearNode n (s.repliedTo .b .accept)).node m =
      if m = n then (s.node m).map NodeRec.afterHearing else s.node m := by
    rw [heard]
    exact s.node_updNode n m NodeRec.afterHearing (fun _ => rfl)
  have flow (p : Nat) : (hearNode n (s.repliedTo .b .accept)).flow p = s.flow p := by rw [heard]; rfl
  generalize hh : hearNode n (s.repliedTo .b .accept) = h at *
  generalize ht : watchTelegram true f (examineKind f h) = t at *
  have nodes (m : Nat) : t.node m = (examineKind f h).node m := by unfold State.node; rw [watch.scan]
  have flows (p : Nat) : t.flow p = (examineKind f h).flow p := by unfold State.flow; rw [watch.tracker]
  refine ⟨?_, ?_, ?_, ?_, ?_, ?_, fun m hne => ?_, ?_, fun p => ?_⟩
  · rw [watch.tracker, report, heard]; rfl
  · rw [watch.seq, report, heard]; rfl
  · rw [watch.interlock, report, heard]; rfl
  · rw [watch.portB, report, heard]; rfl
  · rw [watch.matcher, report, heard]
    exact follow.covered_after n
  · rw [watch.scan, report, heard]
    exact follow.polled_after n
  · have kept : (examineKind f h).node m = h.node m := by
      rw [examineKind_report hv hp34, hsource]
      split
      · unfold takeFlowReport
        split <;> rfl
      split
      · exact (takeNodeState_node ..).trans (if_neg hne)
      · rfl
    rw [nodes, kept, node, if_neg hne]
  · rw [nodes, examineKind_report hv hp34, hsource]
    split
    · next hk =>
      have kept : (takeFlowReport n (framePayload f) h).node n = h.node n := by
        unfold takeFlowReport
        split <;> rfl
      have notState : ¬ (frameKind f = 36 ∧ 1 ≤ (framePayload f).length) := by simp [hk.1]
      rw [kept, node, if_pos rfl]
      simp only [notState, if_false]
      rfl
    split
    · next hk =>
      rw [takeNodeState_node, if_pos rfl, node, if_pos rfl, Option.map_map]
      rfl
    · next hk =>
      rw [node, if_pos rfl]
      rfl
  · rw [flows, examineKind_report hv hp34, hsource]
    split
    · next hk =>
      rw [takeFlowReport_flow, map, flow]
      simp only [hk.1, hk.2, true_and]
    · next hk =>
      have kept : (if frameKind f = 36 ∧ 1 ≤ (framePayload f).length then takeNodeState n (framePayload f) h else h).flow p =
          h.flow p := by split <;> rfl
      rw [kept, flow, if_neg (fun e => hk ⟨e.1, e.2.1⟩)]

end Sys2Proof.Machine
end

section
/-! PROOF. The Port B arbiter (O17, O18). -/

namespace Sys2Proof.Machine

variable {s : State}

/-! ### Candidates -/

theorem isFullOrder_iff {f : Frame} : isFullOrder f = true ↔ frameKind f = 17 ∧ 2 ≤ (framePayload f).length := by
  unfold isFullOrder
  rw [Bool.and_eq_true, decide_eq_true_iff, decide_eq_true_iff]
  rfl

theorem State.checks_iff {f : Frame} : s.checks f = true ↔ s.mgmt.mode = .guarded ∧ isFullOrder f = true := by
  unfold State.checks
  rw [Bool.and_eq_true, beq_iff_eq]

theorem State.placeForOrder_iff : s.placeForOrder = true ↔ s.claimed < s.freePlaces := by
  unfold State.placeForOrder
  rw [decide_eq_true_iff]

/-- A full valve order waits in GUARDED without a place (R92; log entry 19). -/
theorem State.forwardEligible_iff {f : Frame} : s.forwardEligible f = true ↔
    ¬ (frameKind f = 17 ∧ 2 ≤ (framePayload f).length ∧ s.mgmt.mode = .guarded ∧ s.freePlaces ≤ s.claimed) := by
  unfold State.forwardEligible
  rw [Bool.or_eq_true, Bool.not_eq_true', ← Bool.not_eq_true, State.checks_iff, State.placeForOrder_iff, isFullOrder_iff,
    ← not_le]
  tauto

theorem State.forwardCandidate_iff {f : Frame} :
    s.forwardCandidate = some f ↔ s.portA.down.head? = some f ∧ s.forwardEligible f = true := by
  unfold State.forwardCandidate
  cases s.portA.down with
  | nil => simp
  | cons g rest =>
    simp only [List.head?_cons, Option.some.injEq]
    by_cases h : s.forwardEligible g = true
    · rw [if_pos h, Option.some.injEq]
      exact ⟨fun e => ⟨e, e ▸ h⟩, fun e => e.1⟩
    · rw [if_neg h]
      exact ⟨nofun, fun e => absurd (e.1 ▸ e.2) h⟩

theorem State.forwardCandidate_none_iff :
    s.forwardCandidate = none ↔ ∀ f, s.portA.down.head? = some f → s.forwardEligible f = false := by
  rw [Option.eq_none_iff_forall_ne_some]
  refine forall_congr' fun f => ?_
  rw [Ne, State.forwardCandidate_iff, ← Bool.not_eq_true]
  tauto

theorem State.slotEligible_iff {j : SlotId} : s.slotEligible j = true ↔
    ∃ o, s.order j = some o ∧ o.begun = false ∧ (s.mgmt.mode = .guarded → checkOrder (.slot j) o.frame s ≠ .hold) := by
  unfold State.slotEligible
  cases s.order j with
  | none => simp
  | some o => simp [imp_iff_not_or]

theorem State.slotCandidate_none (h : ∀ j, s.slotEligible j = false) : s.slotCandidate = none :=
  List.find?_eq_none.2 fun j _ => by simp [h j]

/-- The slots stand in order of number. -/
theorem slotIds_split (k : SlotId) : ∃ before after, slotIds = before ++ k :: after ∧ ∀ j ∈ before, j < k := by
  fin_cases k
  · exact ⟨[], _, rfl, nofun⟩
  · exact ⟨[0], _, rfl, by decide⟩
  · exact ⟨[0, 1], _, rfl, by decide⟩
  · exact ⟨[0, 1, 2], _, rfl, by decide⟩

/-- The lowest slot with an eligible order is the SEQUENCE candidate. -/
theorem State.slotCandidate_some {k : SlotId} (h : s.slotEligible k = true) (low : ∀ j, j < k → s.slotEligible j = false) :
    s.slotCandidate = some k := by
  obtain ⟨before, after, split, lower⟩ := slotIds_split k
  exact List.find?_eq_some_iff_append.2 ⟨h, before, after, split, fun j hj => by rw [low j (lower j hj)]; rfl⟩

/-! ### The choice -/

theorem grantB_poll {n : Nat} {rest : List Nat} (free : s.portB.link.tx = none) (h : s.scan.pollList = n :: rest)
    (hb : s.portB.burst < 2 ∨ (s.slotCandidate = none ∧ s.forwardCandidate = none)) : grantB s = grantScan n rest s := by
  unfold grantB
  rw [if_neg (by simp [free]), h]
  exact if_pos hb

theorem grantB_other (free : s.portB.link.tx = none) (h : s.scan.pollList = [] ∨ 2 ≤ s.portB.burst)
    (hc : s.scan.pollList = [] ∨ ¬ (s.slotCandidate = none ∧ s.forwardCandidate = none)) : grantB s = grantOther s := by
  unfold grantB
  rw [if_neg (by simp [free])]
  split
  · next n rest hp =>
    rw [hp] at h hc
    have h := h.resolve_left nofun
    have hc := hc.resolve_left nofun
    exact if_neg (by rintro (h' | h'); exacts [absurd h' (not_lt.2 h), hc h'])
  · rfl

theorem grantOther_none (hk : s.slotCandidate = none) (hf : s.forwardCandidate = none) : grantOther s = s := by
  unfold grantOther
  rw [hk, hf]

theorem grantOther_forward {f : Frame} (hf : s.forwardCandidate = some f)
    (hk : s.slotCandidate = none ∨ s.sequenceFirst = false) : grantOther s = grantForward f s := by
  unfold grantOther
  rw [hf]
  cases h : s.slotCandidate with
  | none => rfl
  | some k =>
    have hk := hk.resolve_left (by simp [h])
    simp [hk]

theorem grantOther_slot {k : SlotId} (hk : s.slotCandidate = some k)
    (hf : s.forwardCandidate = none ∨ s.sequenceFirst = true) : grantOther s = grantSlot k s := by
  unfold grantOther
  rw [hk]
  cases h : s.forwardCandidate with
  | none => rfl
  | some f =>
    have hf := hf.resolve_left (by simp [h])
    simp [hf]

/-! ### A telegram from the down queue -/

/-- The state after the bookkeeping of a grant (R90, R91). -/
theorem noteGrant_eq (b : Bool) : noteGrant b s = { s with
    portB := { s.portB with burst := 0, turnForward := if s.mgmt.config.rotating then b else s.portB.turnForward } } := rfl

theorem transmit_eq_sends (t : Tx) (s : State) : transmit .b t s = s.sends .b t := rfl

/-- ORDER FORWARDED is written for a full order outside TRANSPARENT, once (R116). -/
theorem writeForwarded_eq {orig : Originator} {f : Frame} {logged : Bool} (hm : s.mgmt.mode ≠ .transparent)
    (hf : isFullOrder f = true) : writeForwarded orig f logged s = if logged then s else logForwarded orig f s := by
  unfold writeForwarded
  cases logged <;> simp [hm, hf]

theorem writeForwarded_none {orig : Originator} {f : Frame} {logged : Bool} (h : s.mgmt.mode = .transparent ∨ isFullOrder f = false) :
    writeForwarded orig f logged s = s := by
  unfold writeForwarded
  obtain h | h := h <;> simp [h]

theorem sendDown_unlogged {t : Tx} (h : s.mgmt.mode = .transparent ∨ isFullOrder t.frame = false) :
    sendDown t s = s.sends .b { t with logged := s.loggedAfter t.logged } := by
  unfold sendDown
  rw [writeForwarded_none h, ite_self]
  rfl

theorem sendDown_logged {t : Tx} (hm : s.mgmt.mode ≠ .transparent) (hf : isFullOrder t.frame = true) :
    sendDown t s = (if t.logged then s else logForwarded .control t.frame s).sends .b { t with logged := true } := by
  have kind : frameKind t.frame = kindValveOrder := (isFullOrder_iff.1 hf).1
  have logged : s.loggedAfter t.logged = true := by unfold State.loggedAfter; simp [hm]
  unfold sendDown
  dsimp only
  rw [if_pos kind, writeForwarded_eq hm hf, logged]
  rfl

/-- Freeing a free port changes nothing. -/
theorem Link.freed_eq {l : Link} (h : l.tx = none) : { l with tx := none } = l := by
  cases l
  cases h
  rfl

/-- What a rejected control-unit order leaves (R92, R116). -/
def State.downRejected (s : State) (f : Frame) (reason run slot : Nat) : State :=
  { s with
    portA := { s.portA with
      down := s.portA.down.tail
      answers := s.portA.answers ++
        [{ frame := mkFrame (frameSource f) (s.lines.nodeNumber.getD 0) 49 (frameTag f)
             [byte (byteAt (framePayload f) 1), byte (frameDest f), byte reason]
           restart := false }] }
    portB := { s.portB with link := { s.portB.link with tx := none } }
    log := s.logWith (s.record .orderRejected run (orderPoint f s) slot (reason * 256 + byteAt (framePayload f) 1)) }

theorem rejectDown_eq (f : Frame) (reason run slot : Nat) : rejectDown f reason run slot s = s.downRejected f reason run slot := rfl

theorem checkDown_forward {t : Tx} (hm : s.mgmt.mode ≠ .transparent) (hf : isFullOrder t.frame = true)
    (h : checkOrder .control t.frame s = .forward) :
    checkDown t s =
      (if t.logged then s else logForwarded .control t.frame s).sends .b { t with placeHeld := true, logged := true } := by
  unfold checkDown
  rw [h]
  exact sendDown_logged (t := { t with placeHeld := true }) hm hf

theorem checkDown_reject {t : Tx} {reason run slot : Nat} (h : checkOrder .control t.frame s = .reject reason run slot) :
    checkDown t s = s.downRejected t.frame reason run slot := by
  unfold checkDown
  rw [h]
  rfl

theorem checkOrder_noteGrant (orig : Originator) (f : Frame) (b : Bool) : checkOrder orig f (noteGrant b s) = checkOrder orig f s := rfl

theorem grantForward_unchecked {f : Frame} (h : s.checks f = false) :
    grantForward f s = sendDown (Tx.fresh .down f) (noteGrant false s) := by
  unfold grantForward
  exact if_neg (by rw [show (noteGrant false s).checks f = s.checks f from rfl, h]; decide)

theorem grantForward_checked {f : Frame} (h : s.checks f = true) :
    grantForward f s = checkDown (Tx.fresh .down f) (noteGrant false s) := by
  unfold grantForward
  exact if_pos h

/-- Settles O17. -/
theorem portBGrantsPollsAndForwards : Obligations.PortBGrantsPollsAndForwards := by
  intro s hp free none_ waits
  have noSlot : s.slotCandidate = none := State.slotCandidate_none fun j => by
    unfold State.slotEligible
    rw [none_ j]
  have noForward (h : ∀ f, s.portA.down.head? = some f → waits f) : s.forwardCandidate = none :=
    State.forwardCandidate_none_iff.2 fun f hf => Bool.eq_false_iff.2 fun e => State.forwardEligible_iff.1 e (h f hf)
  refine ⟨fun n rest h hw => ?_, fun h hw => ?_, fun f rest hd h => ?_⟩
  · exact live_next hp (grantB_poll free h (hw.imp_right fun hw => ⟨noSlot, noForward hw⟩))
  · exact live_next hp ((grantB_other free (.inl h) (.inl h)).trans (grantOther_none noSlot (noForward hw)))
  · intro granted
    have forwards (e : s.forwardEligible f = true) : exec .portBGrant s = .next (grantForward f s) := by
      have hf : s.forwardCandidate = some f := State.forwardCandidate_iff.2 ⟨by rw [hd]; rfl, e⟩
      refine live_next hp ((grantB_other free h (.inr fun hn => ?_)).trans (grantOther_forward hf (.inl noSlot)))
      rw [hf] at hn
      cases hn.2
    refine ⟨fun hu => ?_, fun hk hl hm => ?_, fun hk hl hm hroom => ?_⟩
    · have short : s.mgmt.mode = .transparent ∨ isFullOrder f = false := by
        rw [← Bool.not_eq_true, isFullOrder_iff]
        obtain h | h | h := hu
        · exact .inr fun e => h e.1
        · exact .inr fun e => absurd e.2 (not_le.2 h)
        · exact .inl h
      have checks : s.checks f = false := by
        rw [← Bool.not_eq_true, State.checks_iff]
        obtain h | h := short <;> simp [h]
      rw [forwards (by unfold State.forwardEligible; rw [checks]; rfl), grantForward_unchecked checks, sendDown_unlogged short]
      rfl
    · have full := isFullOrder_iff.2 ⟨hk, hl⟩
      have checks : s.checks f = false := by
        rw [← Bool.not_eq_true, State.checks_iff, hm]
        exact fun e => by cases e.1
      rw [forwards (by unfold State.forwardEligible; rw [checks]; rfl), grantForward_unchecked checks,
        sendDown_logged (s := noteGrant false s) (show s.mgmt.mode ≠ .transparent by rw [hm]; nofun) full]
      rfl
    · have full := isFullOrder_iff.2 ⟨hk, hl⟩
      have guarded : s.mgmt.mode ≠ .transparent := by rw [hm]; nofun
      rw [forwards (State.forwardEligible_iff.2 fun e => absurd e.2.2.2 (not_le.2 hroom)),
        grantForward_checked (State.checks_iff.2 ⟨hm, full⟩)]
      refine ⟨fun hc => ?_, fun reason run slot hc => ?_⟩
      · rw [checkDown_forward (s := noteGrant false s) (t := Tx.fresh .down f) guarded full ((checkOrder_noteGrant _ _ _).trans hc)]
        rfl
      · rw [checkDown_reject (s := noteGrant false s) (t := Tx.fresh .down f) ((checkOrder_noteGrant _ _ _).trans hc)]
        unfold State.downRejected noteGrant
        dsimp only
        rw [Link.freed_eq (l := s.portB.link) free, hd]
        rfl

/-! ### A slot's order -/

theorem sendSlotOrder_transparent {k : SlotId} {o : SlotOrder} {t : Tx} (hm : s.mgmt.mode = .transparent) :
    sendSlotOrder k o t s = (s.setOrder k (some { o with begun := true, logged := o.logged })).sends .b t := by
  have logged : s.loggedAfter o.logged = o.logged := by unfold State.loggedAfter; simp [hm]
  unfold sendSlotOrder
  rw [writeForwarded_none (.inl hm), logged]
  rfl

theorem sendSlotOrder_logged {k : SlotId} {o : SlotOrder} {t : Tx} (hm : s.mgmt.mode ≠ .transparent)
    (hf : isFullOrder o.frame = true) :
    sendSlotOrder k o t s =
      ((if o.logged then s else logForwarded (.slot k) o.frame s).setOrder k
        (some { o with begun := true, logged := true })).sends .b t := by
  have logged : s.loggedAfter o.logged = true := by unfold State.loggedAfter; simp [hm]
  unfold sendSlotOrder
  rw [writeForwarded_eq hm hf, logged]
  rfl

/-- An order that awaits its slot's place is placed, as SLOT_ORDER_PLACED does (R136). -/
theorem exec_slotOrderPlaced (hp : s.powered = true) (k : SlotId) :
    exec (.slotOrderPlaced k.val) s = .next (placeAwaiting k s) := by
  refine (ifWf_true (slotWf_val k) _).trans ?_
  rw [live_eq hp, slotOfNat_val]
  rfl

/-- A rejected order of a slot leaves its place, and the order that awaited it is placed (R92, R136). -/
theorem dropSlotOrder_eq (k : SlotId) (o : SlotOrder) (reason run slot : Nat) :
    dropSlotOrder k o reason run slot s =
      placeAwaiting k { s.setOrder k none with
        log := s.logWith (s.record .orderRejected run (orderPoint o.frame s) slot
          (reason * 256 + byteAt (framePayload o.frame) 1)) } := rfl

/-- The same state with other orders in the slots' places. -/
def State.withOrders (s : State) (os : Four (Option SlotOrder)) : State := { s with portB := { s.portB with orders := os } }

theorem logForwarded_withOrders (orig : Originator) (f : Frame) (os : Four (Option SlotOrder)) :
    logForwarded orig f (s.withOrders os) = (logForwarded orig f s).withOrders os := rfl

theorem writeForwarded_withOrders (orig : Originator) (f : Frame) (logged : Bool) (os : Four (Option SlotOrder)) :
    writeForwarded orig f logged (s.withOrders os) = (writeForwarded orig f logged s).withOrders os := by
  unfold writeForwarded
  rw [show (s.withOrders os).mgmt = s.mgmt from rfl]
  split <;> rfl

theorem sendDown_withOrders (t : Tx) (os : Four (Option SlotOrder)) :
    sendDown t (s.withOrders os) = (sendDown t s).withOrders os := by
  unfold sendDown
  rw [writeForwarded_withOrders]
  dsimp only
  split <;> rfl

theorem checkDown_withOrders (t : Tx) (os : Four (Option SlotOrder)) :
    checkDown t (s.withOrders os) = (checkDown t s).withOrders os := by
  unfold checkDown
  rw [show checkOrder .control t.frame (s.withOrders os) = checkOrder .control t.frame s from rfl]
  split
  · rfl
  · exact sendDown_withOrders _ os
  · rfl

/-- The grant to FORWARD does not touch the slots' orders. -/
theorem grantForward_withOrders (f : Frame) (os : Four (Option SlotOrder)) :
    grantForward f (s.withOrders os) = (grantForward f s).withOrders os := by
  unfold grantForward
  rw [show noteGrant false (s.withOrders os) = (noteGrant false s).withOrders os from rfl]
  dsimp only
  rw [show ((noteGrant false s).withOrders os).checks f = (noteGrant false s).checks f from rfl]
  split
  · exact checkDown_withOrders _ os
  · exact sendDown_withOrders _ os

theorem grantScan_withOrders (n : Nat) (rest : List Nat) (os : Four (Option SlotOrder)) :
    grantScan n rest (s.withOrders os) = (grantScan n rest s).withOrders os := rfl

theorem forwardCandidate_withOrders (os : Four (Option SlotOrder)) :
    (s.withOrders os).forwardCandidate = s.forwardCandidate := rfl

/-- No order in any place. -/
def noOrders : Four (Option SlotOrder) := ⟨none, none, none, none⟩

theorem slotCandidate_noOrders : (s.withOrders noOrders).slotCandidate = none :=
  State.slotCandidate_none fun j => by
    unfold State.slotEligible
    have : (s.withOrders noOrders).order j = none := by fin_cases j <;> rfl
    rw [this]

/-- Where no slot order is granted, the grant is what it would be without them. -/
theorem grantB_alone (free : s.portB.link.tx = none)
    (h : s.slotCandidate = none ∨ (s.forwardCandidate ≠ none ∧ s.sequenceFirst = false) ∨
      (s.scan.pollList ≠ [] ∧ s.portB.burst < 2)) :
    grantB s = (grantB (s.withOrders noOrders)).withOrders s.portB.orders := by
  have alone : grantB (s.withOrders noOrders) =
      match s.scan.pollList with
      | n :: rest =>
        if s.portB.burst < 2 ∨ s.forwardCandidate = none then grantScan n rest (s.withOrders noOrders)
        else grantOther (s.withOrders noOrders)
      | [] => grantOther (s.withOrders noOrders) := by
    unfold grantB
    rw [slotCandidate_noOrders, forwardCandidate_withOrders, show (s.withOrders noOrders).portB.link = s.portB.link from rfl,
      if_neg (by simp [free]), show (s.withOrders noOrders).scan = s.scan from rfl]
    simp only [true_and] <;> rfl
  have other : s.slotCandidate = none ∨ (s.forwardCandidate ≠ none ∧ s.sequenceFirst = false) →
      grantOther s = (grantOther (s.withOrders noOrders)).withOrders s.portB.orders := by
    intro h
    cases hf : s.forwardCandidate with
    | none =>
      have hk := h.resolve_right fun e => e.1 hf
      rw [grantOther_none hk hf, grantOther_none slotCandidate_noOrders hf]
      rfl
    | some f =>
      rw [grantOther_forward hf (h.imp_right And.right),
        grantOther_forward (s := s.withOrders noOrders) hf (.inl slotCandidate_noOrders)]
      exact grantForward_withOrders (s := s.withOrders noOrders) f s.portB.orders
  rw [alone]
  unfold grantB
  rw [if_neg (by simp [free])]
  cases hp : s.scan.pollList with
  | nil => exact other (by simpa [hp, or_assoc] using h)
  | cons n rest =>
    dsimp only
    by_cases hb : s.portB.burst < 2
    · rw [if_pos (.inl hb), if_pos (.inl hb)]
      rfl
    · have h : s.slotCandidate = none ∨ (s.forwardCandidate ≠ none ∧ s.sequenceFirst = false) := by
        simpa [hb, or_assoc] using h
      have same : (s.portB.burst < 2 ∨ (s.slotCandidate = none ∧ s.forwardCandidate = none)) ↔
          (s.portB.burst < 2 ∨ s.forwardCandidate = none) :=
        or_congr Iff.rfl ⟨And.right, fun e => ⟨h.resolve_right fun e' => e'.1 e, e⟩⟩
      simp only [same]
      split
      · rfl
      · exact other h

theorem State.sequenceFirst_iff : s.sequenceFirst = false ↔ s.mgmt.config.rotating = true ∧ s.portB.turnForward = true := by
  unfold State.sequenceFirst
  cases s.mgmt.config.rotating <;> cases s.portB.turnForward <;> simp

/-- Settles O18. -/
theorem portBGrantsSlotOrders : Obligations.PortBGrantsSlotOrders := by
  intro s hp free eligible forward forwardFirst alone
  have hforward : s.forwardCandidate ≠ none ↔ forward := by
    rw [Option.ne_none_iff_exists']
    exact exists_congr fun f => State.forwardCandidate_iff.trans (and_congr Iff.rfl State.forwardEligible_iff)
  have hfirst : (s.forwardCandidate ≠ none ∧ s.sequenceFirst = false) ↔ forwardFirst := by
    rw [hforward, State.sequenceFirst_iff]
    exact ⟨fun ⟨a, b, c⟩ => ⟨b, c, a⟩, fun ⟨b, c, a⟩ => ⟨a, b, c⟩⟩
  constructor
  · intro h
    refine ⟨grantB alone, live_eq (s := alone) hp _, live_next hp (grantB_alone free ?_)⟩
    rw [hfirst]
    exact h.imp_left fun h => State.slotCandidate_none fun j => Bool.eq_false_iff.2 fun e => h j (State.slotEligible_iff.1 e)
  · intro k o ho hk low notFirst hpoll full granted sent
    have candidate : s.slotCandidate = some k := State.slotCandidate_some (State.slotEligible_iff.2 hk) fun j hj =>
      Bool.eq_false_iff.2 fun e => low j hj (State.slotEligible_iff.1 e)
    have grants : exec .portBGrant s = .next (grantSlot k s) := by
      refine live_next hp ((grantB_other free hpoll (.inr fun e => ?_)).trans (grantOther_slot candidate ?_))
      · rw [candidate] at e; cases e.1
      · rw [← hfirst] at notFirst
        by_cases hf : s.forwardCandidate = none
        · exact .inl hf
        · exact .inr (by simpa [hf] using notFirst)
    have slot : grantSlot k s = if s.checks o.frame then
        match checkOrder (.slot k) o.frame s with
        | .forward => sendSlotOrder k o (Tx.fresh (.slot k) o.frame) granted
        | .reject reason run slot => dropSlotOrder k o reason run slot granted
        | .hold => granted
      else sendSlotOrder k o (Tx.fresh (.slot k) o.frame) granted := by
      unfold grantSlot
      rw [ho] <;> rfl
    rw [grants, slot]
    have unchecked (hm : s.mgmt.mode ≠ .guarded) : ¬ s.checks o.frame = true := fun e => hm (State.checks_iff.1 e).1
    have checked (hm : s.mgmt.mode = .guarded) : s.checks o.frame = true := State.checks_iff.2 ⟨hm, full⟩
    refine ⟨fun hm => ?_, fun hm => ?_, fun reason run slot hm hc => ?_⟩
    · rw [if_neg (unchecked (by rw [hm]; nofun)), sendSlotOrder_transparent (s := granted) hm]
    · obtain hm | ⟨hm, hc⟩ := hm
      · rw [if_neg (unchecked (by rw [hm]; nofun)),
          sendSlotOrder_logged (s := granted) (show s.mgmt.mode ≠ .transparent by rw [hm]; nofun) full]
      · rw [if_pos (checked hm), hc]
        exact congrArg _ (sendSlotOrder_logged (s := granted) (show s.mgmt.mode ≠ .transparent by rw [hm]; nofun) full)
    · rw [if_pos (checked hm), hc]
      exact (exec_slotOrderPlaced (s := { granted.setOrder k none with log := _ }) hp k).symm

end Sys2Proof.Machine
end

section
/-! PROOF. The Sequence Unit's step starts as equations (R135 to R141), and the start of a step (O36). -/

namespace Sys2Proof.Machine

variable {s : State} {k : SlotId} {i j : Nat} {r : StepRec}

/-! ### A slot's record, written again -/

theorem State.setSlot_setSlot (a b : Slot) : (s.setSlot k a).setSlot k b = s.setSlot k b := by
  fin_cases k <;> rfl

theorem State.setSlot_slot : s.setSlot k (s.slot k) = s := by
  fin_cases k <;> rfl

theorem State.updSlot_updSlot (f g : Slot → Slot) : (s.updSlot k f).updSlot k g = s.updSlot k (fun x => g (f x)) := by
  unfold State.updSlot
  rw [State.slot_setSlot_same, State.setSlot_setSlot]

theorem State.updSlot_same {f : Slot → Slot} (h : f (s.slot k) = s.slot k) : s.updSlot k f = s := by
  unfold State.updSlot
  rw [h, State.setSlot_slot]

theorem State.setOrder_order : s.setOrder k (s.order k) = s := by
  fin_cases k <;> rfl

/-- The slot stands at a step, its step order NONE. -/
def State.standsAt (s : State) (k : SlotId) (i countdown : Nat) : State :=
  s.updSlot k (fun x => { x with step := some i, order := .none, countdown := countdown })

theorem State.standsAt_standsAt (c d : Nat) : (s.standsAt k i c).standsAt k j d = s.standsAt k j d :=
  State.updSlot_updSlot _ _

theorem State.slot_standsAt (c : Nat) :
    (s.standsAt k i c).slot k = { s.slot k with step := some i, order := .none, countdown := c } := State.slot_updSlot_same _

/-! ### Beginning a step -/

theorem beginStep_eq (h : s.stepAt i = some r) : beginStep k i false s = startAction k i r (s.standsAt k i r.load) := by
  unfold beginStep
  rw [h]
  rfl

theorem beginStep_kept (h : s.stepAt i = some r) : beginStep k i true s =
    startAction k i r (s.standsAt k i (if r.usesCountdown then (s.slot k).countdown else r.load)) := by
  unfold beginStep
  rw [h]
  rfl

/-- A step that is begun anew takes nothing over from the step before. -/
theorem beginStep_standsAt (h : s.stepAt j = some r) (c : Nat) :
    beginStep k j false (s.standsAt k i c) = beginStep k j false s := by
  rw [beginStep_eq h, beginStep_eq (s := s.standsAt k i c) h, State.standsAt_standsAt]

theorem runSteps_stops {t : State} {n : Nat} {keep : Bool} (h : beginStep k i keep s = ⟨t, none⟩) :
    runSteps (n + 1) k i keep s = t := by
  rw [runSteps, h]

theorem runSteps_goes {t : State} {n : Nat} {keep : Bool} (h : beginStep k i keep s = ⟨t, some j⟩) :
    runSteps (n + 1) k i keep s = runSteps n k j false t := by
  rw [runSteps, h]

theorem startStep_stops {t : State} (h : beginStep k i false s = ⟨t, none⟩) : startStep k i s = t :=
  runSteps_stops (n := 2047) h

theorem startStep_congr {t : State} (h : beginStep k i false t = beginStep k i false s) : startStep k i t = startStep k i s := by
  unfold startStep stepFuel
  rw [runSteps, runSteps, h]

theorem startStep_standsAt (h : s.stepAt j = some r) (c : Nat) : startStep k j (s.standsAt k i c) = startStep k j s :=
  startStep_congr (beginStep_standsAt h c)

/-- A step that waits for an event whenever it is started. -/
def StepRec.Waits (r : StepRec) : Prop := r.action = .openValve ∨ r.action = .closeValve ∨ r.action = .awaitPassage

theorem startAction_waits (h : r.Waits) : startAction k i r s = ⟨(startAction k i r s).state, none⟩ := by
  unfold startAction
  obtain h | h | h := h <;> rw [h]

theorem runSteps_waits {n : Nat} (h : s.stepAt i = some r) (w : r.Waits) : runSteps (n + 1) k i false s = startStep k i s := by
  have stops : beginStep k i false s = ⟨(beginStep k i false s).state, none⟩ := by
    rw [beginStep_eq h]
    exact startAction_waits w
  rw [runSteps_stops stops, startStep_stops stops]

/-- A step that completes at its start hands on to one that waits. -/
theorem runSteps_handsOn {t : State} {n : Nat} {keep : Bool} (h : beginStep k i keep s = ⟨t, some j⟩) (hr : t.stepAt j = some r)
    (w : r.Waits) : runSteps (n + 2) k i keep s = startStep k j t := by
  rw [runSteps_goes h, runSteps_waits hr w]

theorem startStep_handsOn {t : State} (h : beginStep k i false s = ⟨t, some j⟩) (hr : t.stepAt j = some r) (w : r.Waits) :
    startStep k i s = startStep k j t := runSteps_handsOn (n := 2046) h hr w

/-! ### The start actions -/

theorem startAction_order (h : r.action = .openValve ∨ r.action = .closeValve) :
    startAction k i r s = ⟨issueOrder k s, none⟩ := by
  unfold startAction
  obtain h | h := h <;> rw [h]

theorem startAction_passage (h : r.action = .awaitPassage) : startAction k i r s = ⟨s, none⟩ := by
  unfold startAction
  rw [h]

theorem startAction_dwell (h : r.action = .dwell) :
    startAction k i r s = ⟨s, if (s.slot k).countdown = 0 then some (i + 1) else none⟩ := by
  unfold startAction waitUnless
  rw [h]
  simp only [beq_iff_eq]

/-- The position that a VERIFY step asks for. -/
theorem startAction_verify {p : Nat} {st : ValveState} (hp : r.operand = some p)
    (h : (r.action = .verifyOpen ∧ st = .opened) ∨ (r.action = .verifyClosed ∧ st = .closed)) :
    startAction k i r s = ⟨s, if s.believed p st = true then some (i + 1) else none⟩ := by
  unfold startAction waitUnless
  obtain ⟨h, rfl⟩ | ⟨h, rfl⟩ := h <;> simp only [h, hp, Option.elim_some]

theorem startAction_approach (h : r.action = .awaitApproach) :
    startAction k i r s = (approachTest k (r.operand.getD 255) r.value s).elim ⟨s, none⟩ (fun t => ⟨t, some (i + 1)⟩) := by
  unfold startAction
  rw [h]
  dsimp only
  cases approachTest k (r.operand.getD 255) r.value s <;> rfl

theorem startAction_end (h : r.action = .endCycle) : startAction k i r s = endStep k s := by
  unfold startAction
  rw [h]

theorem startAction_insert (h : r.action = .insertRun) : startAction k i r s = insertRunStep k (i + 1) s := by
  unfold startAction
  rw [h]

theorem startAction_remove (h : r.action = .removeRun) : startAction k i r s = removeRunStep k (i + 1) s := by
  unfold startAction
  rw [h]

/-! ### The approach test (R141) -/

/-- The foremost unbound run below a point. -/
def State.foremostFree (s : State) (p : Nat) : Option Run :=
  s.tracker.runs.find? (fun x => decide (x.position < chainMm s.map p) && x.bound.isNone)

theorem approachTest_bound {id p d : Nat} {x : Run} (hb : (s.slot k).bound = some id) (hx : s.run id = some x) :
    approachTest k p d s = if chainMm s.map p - d * 1000 ≤ x.position then some s else none := by
  unfold approachTest
  rw [hb]
  dsimp only
  rw [hx]
  simp only [Option.elim_some, decide_eq_true_iff]
  rfl

theorem approachTest_free {p d : Nat} {x : Run} (hb : (s.slot k).bound = none) (hx : s.foremostFree p = some x) :
    approachTest k p d s = if chainMm s.map p - d * 1000 ≤ x.position then some (bindSlot k x.id s) else none := by
  unfold State.foremostFree at hx
  unfold approachTest
  rw [hb]
  dsimp only
  rw [hx]
  rfl

theorem approachTest_none {p d : Nat} (hb : (s.slot k).bound = none) (hx : s.foremostFree p = none) :
    approachTest k p d s = none := by
  unfold State.foremostFree at hx
  unfold approachTest
  rw [hb]
  dsimp only
  rw [hx]

theorem State.slot_updRun (id : Nat) (f : Run → Run) : (s.updRun id f).slot k = s.slot k := rfl

theorem bindSlot_standsAt (id c : Nat) : bindSlot k id (s.standsAt k i c) = (bindSlot k id s).standsAt k i c := by
  show ((s.setSlot k _).setSlot k { (s.standsAt k i c).slot k with bound := some id }).updRun id _ =
    ((s.setSlot k { s.slot k with bound := some id }).updRun id _).setSlot k
      { ((s.setSlot k { s.slot k with bound := some id }).updRun id _).slot k with
        step := some i, order := .none, countdown := c }
  rw [State.slot_updRun, State.slot_setSlot_same, State.slot_standsAt, State.setSlot_setSlot]
  exact (congrArg (State.updRun · id (fun r => { r with bound := some k })) (State.setSlot_setSlot _ _)).symm

/-- The threshold of an AWAIT APPROACH step. -/
def State.threshold (s : State) (r : StepRec) : Nat := chainMm s.map (r.operand.getD 255) - r.value * 1000

theorem startAction_approach_bound {id : Nat} {x : Run} (h : r.action = .awaitApproach) (hb : (s.slot k).bound = some id)
    (hx : s.run id = some x) :
    startAction k i r s = ⟨s, if s.threshold r ≤ x.position then some (i + 1) else none⟩ := by
  rw [startAction_approach h, approachTest_bound hb hx, State.threshold]
  split <;> rfl

theorem startAction_approach_free {x : Run} (h : r.action = .awaitApproach) (hb : (s.slot k).bound = none)
    (hx : s.foremostFree (r.operand.getD 255) = some x) :
    startAction k i r s = if s.threshold r ≤ x.position then ⟨bindSlot k x.id s, some (i + 1)⟩ else ⟨s, none⟩ := by
  rw [startAction_approach h, approachTest_free hb hx, State.threshold]
  split <;> rfl

theorem startAction_approach_none (h : r.action = .awaitApproach) (hb : (s.slot k).bound = none)
    (hx : s.foremostFree (r.operand.getD 255) = none) : startAction k i r s = ⟨s, none⟩ := by
  rw [startAction_approach h, approachTest_none hb hx]
  rfl

/-! ### The frame of a slot's order (R136) -/

theorem frameDest_mkFrame (dest source kind : Nat) (tag : Byte) (payload : List Byte) :
    frameDest (mkFrame dest source kind tag payload) = dest % 256 := byte_toNat dest

theorem frameSource_mkFrame (dest source kind : Nat) (tag : Byte) (payload : List Byte) :
    frameSource (mkFrame dest source kind tag payload) = source % 256 := byte_toNat source

theorem frameKind_mkFrame (dest source kind : Nat) (tag : Byte) (payload : List Byte) :
    frameKind (mkFrame dest source kind tag payload) = kind % 256 := byte_toNat kind

theorem framePayload_mkFrame (dest source kind : Nat) (tag : Byte) {payload : List Byte} (h : payload.length < 256) :
    framePayload (mkFrame dest source kind tag payload) = payload := by
  have length_eq : frameLength (mkFrame dest source kind tag payload) = payload.length := toNat_byte_of_lt h
  unfold framePayload
  rw [length_eq]
  exact List.take_left

theorem State.currentStep_eq (hi : (s.slot k).step = some i) : s.currentStep k = s.stepAt i := by
  unfold State.currentStep
  rw [hi]
  rfl

/-- A slot's order: a VALVE ORDER to the node of the step's valve, tagged with the slot and 128 plus the step. -/
theorem stepOrderFrame_eq (hi : (s.slot k).step = some i) (hr : s.stepAt i = some r) :
    stepOrderFrame k s = mkFrame (((s.map[r.operand.getD 255]?).bind Point.node).getD 0) (s.lines.nodeNumber.getD 0) 17
      (byte k.val) [if r.action = .openValve then 1#8 else 2#8, byte (128 + i)] := by
  have current := (State.currentStep_eq hi).trans hr
  unfold stepOrderFrame State.stepPoint
  rw [current, hi]
  simp only [Option.bind_some, Option.elim_some, Option.getD_some, beq_iff_eq]
  cases h : r.action <;> rfl

theorem stepOrderFrame_payload (hi : (s.slot k).step = some i) (hr : s.stepAt i = some r) :
    framePayload (stepOrderFrame k s) = [if r.action = .openValve then 1#8 else 2#8, byte (128 + i)] := by
  rw [stepOrderFrame_eq hi hr]
  exact framePayload_mkFrame _ _ _ _ (by simp)

theorem stepOrderFrame_source {n : Nat} (hn : s.lines.nodeNumber = some n) (h : n ≤ 126) :
    frameSource (stepOrderFrame k s) = n := by
  have own : s.ownNode = n := by
    unfold State.ownNode
    rw [hn]
    rfl
  unfold stepOrderFrame
  rw [frameSource_mkFrame, own]
  omega

theorem issueOrder_placed (h : s.order k = none) :
    issueOrder k s = (s.setOrder k (some { frame := stepOrderFrame k s, begun := false, logged := false })).updSlot k
      (fun r => { r with order := .queued }) := by
  unfold issueOrder
  rw [h]

theorem issueOrder_awaits (h : s.order k ≠ none) : issueOrder k s = s.updSlot k (fun r => { r with order := .awaitingPlace }) := by
  obtain ⟨o, ho⟩ := Option.ne_none_iff_exists'.1 h
  unfold issueOrder
  rw [ho]

/-! ### The start of a step -/

theorem State.slot_updSlot_ne {l : SlotId} (f : Slot → Slot) (h : l ≠ k) : (s.updSlot k f).slot l = s.slot l :=
  s.slot_setSlot_ne _ h

theorem issueOrder_slot_ne {l : SlotId} (h : l ≠ k) : (issueOrder k s).slot l = s.slot l := by
  unfold issueOrder
  split
  · exact State.slot_updSlot_ne (s := s.setOrder k _) _ h
  · exact State.slot_updSlot_ne _ h

/-- What issuing an order leaves of the slot and its place. -/
theorem issueOrder_slot : (issueOrder k s).slot k =
    { s.slot k with order := if s.order k = none then .queued else .awaitingPlace } := by
  by_cases h : s.order k = none
  · rw [issueOrder_placed h, State.slot_updSlot_same, if_pos h]
    rfl
  · rw [issueOrder_awaits h, State.slot_updSlot_same, if_neg h]

theorem issueOrder_order : (issueOrder k s).order k =
    if s.order k = none then some { frame := stepOrderFrame k s, begun := false, logged := false } else s.order k := by
  by_cases h : s.order k = none
  · rw [issueOrder_placed h, if_pos h]
    exact s.order_setOrder_same k _
  · rw [issueOrder_awaits h, if_neg h]
    rfl

/-- Issuing an order concerns its slot and place alone. -/
theorem issueOrder_eq : issueOrder k s = { s with
    seq := (issueOrder k s).seq, portB := { s.portB with orders := (issueOrder k s).portB.orders } } := by
  unfold issueOrder
  split <;> rfl

theorem StepRec.load_of_waits (h : r.action = .openValve ∨ r.action = .closeValve ∨ r.action = .awaitPassage ∨
    r.action = .verifyOpen ∨ r.action = .verifyClosed ∨ r.action = .awaitApproach) : r.load = r.timeout := by
  unfold StepRec.load
  obtain h | h | h | h | h | h := h <;> rw [h]

/-- Settles O36. -/
theorem stepsStart : Obligations.StepsStart := by
  intro k i r s hr at_ nextWaits point threshold foremost
  have begins := beginStep_eq (k := k) hr
  have slot := State.slot_standsAt (s := s) (k := k) (i := i) r.load
  have waits (h : startAction k i r (s.standsAt k i r.load) = ⟨s.standsAt k i r.load, none⟩) (hl : r.load = r.timeout) :
      startStep k i s = at_ r.timeout := by
    rw [startStep_stops (begins.trans h), hl]
    rfl
  have handsOn {u : State} (hn : nextWaits) (ht : u.tables = s.tables)
      (h : startAction k i r (s.standsAt k i r.load) = ⟨u.standsAt k i r.load, some (i + 1)⟩) :
      startStep k i s = startStep k (i + 1) u := by
    obtain ⟨o, ho, w⟩ := hn
    have ho' : u.stepAt (i + 1) = some o := by rw [← ho]; unfold State.stepAt; rw [ht]
    rw [startStep_handsOn (begins.trans h) ho' w, startStep_standsAt ho']
  refine ⟨fun h => ?_, fun h => waits (startAction_passage h) (StepRec.load_of_waits (by simp [h])), fun h hv => ?_,
    fun h hv hn => ?_, fun p st hp h => ?_, fun h => ⟨fun id x hb hx => ?_, fun hb hx => ?_, fun x hb hx => ?_⟩⟩
  · have hl : r.load = r.timeout := StepRec.load_of_waits (h.imp_right .inl)
    rw [hl] at begins slot
    refine ⟨_, startStep_stops (begins.trans (startAction_order h)), ?_⟩
    have step : ((s.standsAt k i r.timeout).slot k).step = some i := by rw [slot]
    have orders : (s.standsAt k i r.timeout).order k = s.order k := rfl
    have begun := (updSlot_sequenced s k (fun x => { x with step := some i, order := .none, countdown := r.timeout }))
    have others := begun.trans (issueOrder_sequenced (s.standsAt k i r.timeout) k)
    have kept := issueOrder_eq (s := s.standsAt k i r.timeout) (k := k)
    rw [issueOrder_slot, issueOrder_order, orders, slot]
    refine ⟨rfl, rfl, rfl, fun j hj => ⟨?_, others.orders j hj⟩, fun hn => ?_, fun hn => ?_, ?_, ?_, ?_, ?_⟩
    · rw [issueOrder_slot_ne hj]
      exact State.slot_updSlot_ne _ hj
    · rw [if_pos hn, if_pos hn]
      refine ⟨rfl, _, rfl, rfl, rfl, ?_, ?_, fun p n hp hn h => ?_, fun n hn h => stepOrderFrame_source hn h,
        stepOrderFrame_payload step hr⟩
      · rw [stepOrderFrame_eq step hr, frameKind_mkFrame]
      · rw [stepOrderFrame_eq step hr]
        rfl
      · rw [stepOrderFrame_eq step hr, frameDest_mkFrame, hp]
        show (((s.map[p]?).bind Point.node).getD 0) % 256 = n
        rw [hn, Option.getD_some]
        exact Nat.mod_eq_of_lt (by omega)
    · rw [if_neg hn, if_neg hn]
      exact ⟨rfl, rfl⟩
    all_goals rw [kept]; rfl
  · have hl : r.load = r.value := by unfold StepRec.load; rw [h]
    refine (startStep_stops (begins.trans ((startAction_dwell h).trans ?_))).trans (congrArg at_ hl)
    rw [slot, if_neg (show ¬ r.load = 0 by omega)]
    rfl
  · have hl : r.load = 0 := by unfold StepRec.load; rw [h, hv]
    refine handsOn hn rfl ((startAction_dwell h).trans ?_)
    rw [slot, hl, if_pos rfl]
  · have hl := StepRec.load_of_waits (r := r) (by obtain h | h := h <;> simp [h.1])
    have action := startAction_verify (k := k) (i := i) (s := s.standsAt k i r.load) hp h
    rw [show (s.standsAt k i r.load).believed p st = s.believed p st from rfl] at action
    exact ⟨fun hb => waits (action.trans (by rw [hb]; rfl)) hl, fun hb hn => handsOn hn rfl (action.trans (by rw [if_pos hb]))⟩
  · have action := startAction_approach_bound (k := k) (i := i) (s := s.standsAt k i r.load) (x := x) h (by rw [slot]; exact hb) hx
    rw [show (s.standsAt k i r.load).threshold r = threshold from rfl] at action
    exact ⟨fun hlt => waits (action.trans (by rw [if_neg (not_le.2 hlt)])) (StepRec.load_of_waits (by simp [h])),
      fun hge hn => handsOn hn rfl (action.trans (by rw [if_pos hge]))⟩
  · exact waits (startAction_approach_none (s := s.standsAt k i r.load) h (by rw [slot]; exact hb) hx)
      (StepRec.load_of_waits (by simp [h]))
  · have action := startAction_approach_free (k := k) (i := i) (s := s.standsAt k i r.load) (x := x) h (by rw [slot]; exact hb) hx
    rw [show (s.standsAt k i r.load).threshold r = threshold from rfl] at action
    exact ⟨fun hlt => waits (action.trans (by rw [if_neg (not_le.2 hlt)])) (StepRec.load_of_waits (by simp [h])),
      fun hge hn => handsOn hn rfl (action.trans (by rw [if_pos hge, bindSlot_standsAt]; rfl))⟩

end Sys2Proof.Machine
end

section
/-! PROOF. Terminations as equations (R145), and the END step (O38). -/

namespace Sys2Proof.Machine

variable {s : State} {k : SlotId} {i : Nat} {r : StepRec}

theorem State.updSlot_setSlot (x : Slot) (f : Slot → Slot) : (s.setSlot k x).updSlot k f = s.setSlot k (f x) := by
  unfold State.updSlot
  rw [State.slot_setSlot_same, State.setSlot_setSlot]

/-! ### The slot unbound -/

/-- The run table after a slot's run was unbound. -/
def State.freed (s : State) (k : SlotId) : State :=
  { s with
    tracker := { s.tracker with
      runs := s.tracker.runs.map (fun y => if (s.slot k).bound = some y.id then { y with bound := none } else y) } }

theorem unbindSlot_freed : unbindSlot k s = (s.freed k).setSlot k { s.slot k with bound := none } := unbindSlot_eq s k

theorem unbindSlot_setSlot {x : Slot} (h : x.bound = (s.slot k).bound) :
    unbindSlot k (s.setSlot k x) = (s.freed k).setSlot k { x with bound := none } := by
  rw [unbindSlot_freed, State.freed, State.slot_setSlot_same, h]
  exact State.setSlot_setSlot (s := s.freed k) x _

/-! ### What every termination does (R145) -/

/-- The order that a termination leaves in the slot's place (R89). -/
def State.leftOrder (s : State) (k : SlotId) : Option SlotOrder :=
  if (s.order k).elim false (fun o => !o.begun) then none else s.order k

theorem withdrawOrder_eq : withdrawOrder k s = s.setOrder k (s.leftOrder k) := by
  unfold withdrawOrder State.leftOrder
  cases h : s.order k with
  | none => exact (h ▸ State.setOrder_order).symm
  | some o =>
    cases hb : o.begun with
    | true =>
      simp only [Option.elim_some, hb, Bool.not_true, Bool.false_eq_true, if_false, if_true]
      exact (h ▸ State.setOrder_order).symm
    | false => simp [hb]

/-- The log after a train's end. -/
def State.endLog (s : State) (k : SlotId) (cause : Cause) (bound step : Nat) : EventLog :=
  s.logWith (s.record .slotEnded bound (s.trapOf k) k.val (cause.code * 256 + step))

/-- What every termination leaves of the log and the slot's place. -/
def State.concluded (s : State) (k : SlotId) (cause : Cause) (bound step : Nat) : State :=
  { s with log := s.endLog k cause bound step }.setOrder k (s.leftOrder k)

/-- The slot's record with the cause of a termination, its end-request cleared. -/
def Slot.endedBy (r : Slot) (cause : Cause) : Slot := { r with endRequested := false, cause := some cause }

theorem Slot.endedBy_eq {r : Slot} (h : r.endRequested = false) (cause : Cause) :
    r.endedBy cause = { r with cause := some cause } := by
  unfold Slot.endedBy
  rw [← h]

theorem terminate_eq (cause : Cause) (bound : Nat) :
    terminate k cause bound s = afterTermination k cause
      ((causeCondition cause (s.concluded k cause bound ((s.slot k).step.getD 255))).setSlot k ((s.slot k).endedBy cause)) := by
  have slot : (causeCondition cause (s.concluded k cause bound ((s.slot k).step.getD 255))).slot k = s.slot k :=
    State.slot_congr (causeCondition_seq cause) k
  unfold terminate
  dsimp only
  rw [withdrawOrder_eq]
  show afterTermination k cause ((causeCondition cause (s.concluded k cause bound ((s.slot k).step.getD 255))).setSlot k
    (((causeCondition cause (s.concluded k cause bound ((s.slot k).step.getD 255))).slot k).endedBy cause)) = _
  rw [slot]

theorem trapOf_setSlot {x : Slot} (h : x.program = (s.slot k).program) : (s.setSlot k x).trapOf k = s.trapOf k := by
  unfold State.trapOf State.programOf
  rw [State.slot_setSlot_same, h]
  rfl

theorem endLog_setSlot {x : Slot} (h : x.program = (s.slot k).program) (cause : Cause) (bound step : Nat) :
    (s.setSlot k x).endLog k cause bound step = s.endLog k cause bound step := by
  unfold State.endLog
  rw [trapOf_setSlot h]
  rfl

theorem concluded_setSlot {x : Slot} (h : x.program = (s.slot k).program) (cause : Cause) (bound step : Nat) :
    (s.setSlot k x).concluded k cause bound step = (s.concluded k cause bound step).setSlot k x := by
  unfold State.concluded
  rw [endLog_setSlot h]
  rfl

/-- The slot fields that the END step and the terminations rewrite leave its program. -/
theorem terminate_setSlot {x : Slot} (h : x.program = (s.slot k).program) {cause : Cause} (hc : ∀ t, causeCondition cause t = t)
    (bound : Nat) :
    terminate k cause bound (s.setSlot k x) =
      afterTermination k cause ((s.concluded k cause bound (x.step.getD 255)).setSlot k (x.endedBy cause)) := by
  rw [terminate_eq, hc, State.slot_setSlot_same, concluded_setSlot h, State.setSlot_setSlot]

/-! ### The rows of Table 6-7 -/

theorem enterArmed_setSlot (x : Slot) : enterArmed k (s.setSlot k x) =
    s.setSlot k { x with state := .armed, step := none, countdown := 0, order := .none } := by
  exact State.updSlot_setSlot x _

theorem reloadCount_setSlot (x : Slot) : reloadCount k (s.setSlot k x) = s.setSlot k { x with count := x.base } :=
  State.updSlot_setSlot x _

theorem enterIdle_setSlot (x : Slot) : enterIdle k (s.setSlot k x) = releaseValves k (s.setSlot k
    { x with state := .idle, step := none, countdown := 0, order := .none, permit := false, reserved := [] }) := by
  unfold enterIdle
  rw [State.updSlot_setSlot]

theorem enterSpacing_setSlot (x : Slot) : enterSpacing k (s.setSlot k x) =
    if x.spacing = 0 then
      ⟨s.setSlot k { x with state := .running, countdown := 0 }, some ((s.setSlot k x).firstStepOf k)⟩
    else ⟨s.setSlot k { x with state := .spacing, countdown := x.spacing }, none⟩ := by
  unfold enterSpacing
  rw [State.slot_setSlot_same, State.updSlot_setSlot, State.updSlot_setSlot]

theorem enterSpacing_spaced {x : Slot} (h : 0 < x.spacing) : enterSpacing k (s.setSlot k x) =
    ⟨s.setSlot k { x with state := .spacing, countdown := x.spacing }, none⟩ := by
  rw [enterSpacing_setSlot, if_neg (Nat.pos_iff_ne_zero.1 h)]

theorem afterTermination_endRequest (x : Slot) : afterTermination k .endRequest (s.setSlot k x) =
    ⟨s.setSlot k { x with state := .armed, step := none, countdown := 0, order := .none, count := x.base }, none⟩ := by
  unfold afterTermination
  rw [reloadCount_setSlot, enterArmed_setSlot]

theorem afterTermination_permit (x : Slot) : afterTermination k .permitWithdrawn (s.setSlot k x) =
    ⟨s.setSlot k { x with state := .armed, step := none, countdown := 0, order := .none }, none⟩ := by
  unfold afterTermination
  rw [enterArmed_setSlot]

theorem afterTermination_failed (x : Slot) : afterTermination k .stepFailed (s.setSlot k x) =
    ⟨s.setSlot k { x with state := .failed }, none⟩ :=
  congrArg (StepFlow.mk · none) (State.updSlot_setSlot x _)

theorem afterTermination_takeover (x : Slot) : afterTermination k .takeover (s.setSlot k x) =
    ⟨s.setSlot k { x with state := .observe, order := .none }, none⟩ :=
  congrArg (StepFlow.mk · none) (State.updSlot_setSlot x _)

theorem afterTermination_repeat {x : Slot} (h : x.chain = none) (ha : x.autoRepeat = true) :
    afterTermination k .count (s.setSlot k x) =
      ⟨s.setSlot k { x with state := .armed, step := none, countdown := 0, order := .none, count := x.base }, none⟩ := by
  have slot : (s.setSlot k x).slot k = x := State.slot_setSlot_same _ _ _
  unfold afterTermination endByCount
  rw [show ((s.setSlot k x).slot k).chain = none by rw [slot, h]]
  dsimp only
  rw [if_pos (by rw [slot, ha]), reloadCount_setSlot, enterArmed_setSlot]

theorem afterTermination_idle {x : Slot} (h : x.chain = none) (ha : x.autoRepeat = false) :
    afterTermination k .count (s.setSlot k x) =
      ⟨releaseValves k (s.setSlot k { x with
        state := .idle, step := none, countdown := 0, order := .none, permit := false, reserved := [], count := x.base }),
        none⟩ := by
  have slot : (s.setSlot k x).slot k = x := State.slot_setSlot_same _ _ _
  unfold afterTermination endByCount
  rw [show ((s.setSlot k x).slot k).chain = none by rw [slot, h]]
  dsimp only
  rw [if_neg (by rw [slot, ha]; decide), reloadCount_setSlot, enterIdle_setSlot]

/-- The slot takes its chain record up (R144). -/
def Slot.chained (x : Slot) (ch : Chain) : Slot :=
  { x with cls := ch.cls, mode := ch.mode, base := ch.base, count := ch.base, spacing := ch.spacing, chain := none }

theorem afterTermination_chain {x : Slot} {ch : Chain} (h : x.chain = some ch) :
    afterTermination k .count (s.setSlot k x) = enterSpacing k (s.setSlot k (x.chained ch)) := by
  unfold afterTermination endByCount
  rw [State.slot_setSlot_same, h]
  exact congrArg (enterSpacing k) (State.updSlot_setSlot x _)

/-! ### The END step -/

theorem firstStepOf_setSlot {x : Slot} (h : x.program = (s.slot k).program) : (s.setSlot k x).firstStepOf k = s.firstStepOf k := by
  unfold State.firstStepOf State.programOf
  rw [State.slot_setSlot_same, h]
  rfl

/-- The record of a slot that stands unbound at a step. -/
def Slot.unboundAt (x : Slot) (i : Nat) : Slot := { x with step := some i, order := .none, countdown := 0, bound := none }

theorem unbindSlot_standsAt : unbindSlot k (s.standsAt k i 0) = (s.freed k).setSlot k ((s.slot k).unboundAt i) :=
  unbindSlot_setSlot rfl

/-- What the END step does to the slot unbound, its run's id known. -/
def endOf (k : SlotId) (bound : Nat) (s : State) : StepFlow :=
  if (s.slot k).endRequested then terminate k .endRequest bound s
  else if (s.slot k).count = 0 then terminate k .count bound s
  else
    match (s.slot k).mode, (s.slot k).permit with
    | .train, _ => enterSpacing k s
    | .single, _ => ⟨s.updSlot k (fun r => { r with state := .waitStart }), none⟩
    | .permissive, true => enterSpacing k s
    | .permissive, false => terminate k .permitWithdrawn bound s

theorem beginStep_end (h : s.stepAt i = some r) (he : r.action = .endCycle) :
    beginStep k i false s = endOf k ((s.slot k).bound.getD 0) ((s.freed k).setSlot k ((s.slot k).unboundAt i)) := by
  have hl : r.load = 0 := by unfold StepRec.load; rw [he]
  rw [beginStep_eq h, startAction_end he, hl, ← unbindSlot_standsAt]
  unfold endStep boundId
  rw [State.slot_standsAt]
  rfl

/-- What a step of one slot leaves of the rest, whatever its record and place become. -/
theorem setSlot_rest {x : Slot} {o : Option SlotOrder} {j : SlotId} (h : j ≠ k) :
    ((s.setOrder k o).setSlot k x).slot j = s.slot j ∧ ((s.setOrder k o).setSlot k x).order j = s.order j :=
  ⟨(s.setOrder k o).slot_setSlot_ne _ h, s.order_setOrder_ne _ h⟩

/-- Settles O38. -/
theorem endStepDecides : Obligations.EndStepDecides := by
  intro k i r s hr he running bound x t unbound others left record ends goes firstWaits freed
  have begins := beginStep_end (k := k) hr he
  have program : x.program = ((s.freed k).slot k).program := rfl
  let base : Cause → State := fun cause => { freed with log := record cause }.setOrder k left
  have concluded (cause : Cause) : (s.freed k).concluded k cause (bound.getD 0) (x.step.getD 255) = base cause := rfl
  have ended {cause : Cause} {y : Slot} (h : t = (base cause).setSlot k y) : ends cause ∧ t.interlock = s.interlock ∧ t.slot k = y := by
    rw [show ends cause = (t.log = record cause ∧ t.order k = left ∧ others t) from rfl, h]
    exact ⟨⟨rfl, State.order_setOrder_same _ _ _, fun j hj => setSlot_rest (s := { freed with log := record cause }) hj,
      rfl, rfl, rfl, rfl⟩, rfl, State.slot_setSlot_same _ _ _⟩
  have went {y : Slot} (h : t = freed.setSlot k y) : goes ∧ t.slot k = y := by
    rw [show goes = (t.log = s.log ∧ t.order k = s.order k ∧ others t ∧ t.interlock = s.interlock) from rfl, h]
    exact ⟨⟨rfl, rfl, ⟨fun j hj => ⟨State.slot_setSlot_ne _ _ hj, rfl⟩, rfl, rfl, rfl, rfl⟩, rfl⟩, State.slot_setSlot_same _ _ _⟩
  have slot : ((s.freed k).setSlot k x).slot k = x := State.slot_setSlot_same _ _ _
  have first {u : State} {y : Slot} (hw : firstWaits) (hu : u.tables = s.tables)
      (h : beginStep k i false s = enterSpacing k (u.setSlot k y)) (hy : y.program = (s.slot k).program) (h0 : y.spacing = 0)
      (hs : y.state = .running) (hc : y.countdown = 0) : t = startStep k (s.firstStepOf k) (u.setSlot k y) := by
    obtain ⟨o, ho, w⟩ := hw
    have same : ({ y with state := .running, countdown := 0 } : Slot) = y := by rw [← hs, ← hc]
    have program : (u.setSlot k y).firstStepOf k = s.firstStepOf k := by
      unfold State.firstStepOf State.programOf State.programAt
      rw [State.slot_setSlot_same, hy, State.setSlot_tables, hu]
    have ho' : (u.setSlot k y).stepAt (s.firstStepOf k) = some o := by
      rw [← ho]
      unfold State.stepAt
      rw [State.setSlot_tables, hu]
    rw [enterSpacing_setSlot, if_pos h0, same, program] at h
    exact startStep_handsOn h ho' w
  change beginStep k i false s = endOf k (bound.getD 0) ((s.freed k).setSlot k x) at begins
  unfold endOf at begins
  rw [slot] at begins
  refine ⟨fun h => ?_, fun h hc hch ha => ?_, fun h hc hch ha => ?_, fun ch h hc hch => ?_, fun h hc hm => ?_,
    fun h hc hm => ?_, fun h hc hm hp => ?_⟩
  · rw [if_pos h, terminate_setSlot program (fun _ => rfl), concluded, afterTermination_endRequest] at begins
    exact ended (startStep_stops begins)
  all_goals
    rw [if_neg (by rw [h]; decide)] at begins
    have marked := Slot.endedBy_eq (r := x) h
  · rw [if_pos hc, terminate_setSlot program (fun _ => rfl), concluded, marked,
      afterTermination_repeat (x := { x with cause := some .count }) hch ha] at begins
    exact ended (startStep_stops begins)
  · rw [if_pos hc, terminate_setSlot program (fun _ => rfl), concluded, marked,
      afterTermination_idle (x := { x with cause := some .count }) hch ha] at begins
    have ht : t = _ := startStep_stops begins
    rw [show ends .count = (t.log = record .count ∧ t.order k = left ∧ others t) from rfl, ht]
    exact ⟨⟨rfl, State.order_setOrder_same _ _ _, fun j hj => setSlot_rest (s := { freed with log := record .count }) hj,
      rfl, rfl, rfl, rfl⟩, State.slot_setSlot_same _ _ _, rfl⟩
  · rw [if_pos hc, terminate_setSlot program (fun _ => rfl), concluded, marked,
      afterTermination_chain (x := { x with cause := some .count }) hch] at begins
    refine ⟨fun h0 => ?_, fun h0 hw => first hw rfl begins rfl h0 running rfl⟩
    exact ended (startStep_stops (begins.trans (enterSpacing_spaced h0)))
  all_goals rw [if_neg (by omega)] at begins
  · rw [hm] at begins
    exact went (startStep_stops (begins.trans (congrArg (StepFlow.mk · none) (State.updSlot_setSlot x _))))
  · have spacing : beginStep k i false s = enterSpacing k ((s.freed k).setSlot k x) := by
      obtain hm | ⟨hm, hp⟩ := hm
      · rw [hm] at begins
        exact begins
      · rw [hm, hp] at begins
        exact begins
    refine ⟨fun h0 => ?_, fun h0 hw => first hw rfl spacing rfl h0 running rfl⟩
    exact went (startStep_stops (spacing.trans (enterSpacing_spaced h0)))
  · rw [hm, hp] at begins
    dsimp only at begins
    rw [terminate_setSlot program (fun _ => rfl), concluded, marked, afterTermination_permit] at begins
    exact ended (startStep_stops begins)

end Sys2Proof.Machine
end

section
/-! PROOF. INSERT RUN and REMOVE RUN (O39). -/

namespace Sys2Proof.Machine

variable {s : State} {k : SlotId} {i : Nat} {r : StepRec}

/-! ### A train that fails -/

theorem State.standsAt_setSlot {j : Nat} (x : Slot) (c : Nat) :
    (s.setSlot k x).standsAt k j c = s.setSlot k { x with step := some j, order := .none, countdown := c } :=
  State.updSlot_setSlot x _

theorem terminate_failed {x : Slot} (h : x.program = (s.slot k).program) (bound : Nat) :
    terminate k .stepFailed bound (s.setSlot k x) =
      ⟨(raise 9 (s.concluded k .stepFailed bound (x.step.getD 255))).setSlot k
        { x.endedBy .stepFailed with state := .failed }, none⟩ := by
  rw [terminate_eq, State.slot_setSlot_same, concluded_setSlot h,
    show ∀ (u : State) (y : Slot), causeCondition .stepFailed (u.setSlot k y) = (raise 9 u).setSlot k y from fun _ _ => rfl,
    State.setSlot_setSlot, afterTermination_failed]

/-! ### The run that INSERT RUN makes -/

/-- The run that enters the table for a slot. -/
def State.launchedRun (s : State) (k : SlotId) : Run :=
  entryRun s s.nextRunId (s.slot k).cls (s.trapOf k) (.launched k) (some k)

/-- What INSERT RUN leaves of the rest of the state. -/
def State.launched (s : State) (k : SlotId) : State :=
  offer .runInserted s.nextRunId (s.trapOf k) k.val (s.slot k).cls (enterRun (s.launchedRun k) s)

theorem nextRunId_freed : (s.freed k).nextRunId = s.nextRunId := by
  have ids : (s.freed k).tracker.runs.map Run.id = s.tracker.runs.map Run.id := by
    simp only [State.freed, List.map_map]
    refine List.map_congr_left fun y _ => ?_
    simp only [Function.comp]
    split <;> rfl
  unfold State.nextRunId
  rw [ids]
  rfl

theorem insertRunStep_standsAt (n : Nat) : insertRunStep k n (s.standsAt k i 0) =
    if s.tracker.runs.length < 16 then
      ⟨((s.freed k).launched k).setSlot k { (s.slot k).unboundAt i with
        bound := some s.nextRunId, count := (s.slot k).count - 1 }, some n⟩
    else terminate k .stepFailed ((s.slot k).bound.getD 0) ((s.freed k).setSlot k ((s.slot k).unboundAt i)) := by
  have room : ((s.freed k).setSlot k ((s.slot k).unboundAt i)).hasRoom = decide (s.tracker.runs.length < 16) := by
    unfold State.hasRoom State.freed
    simp
  have trap : ((s.freed k).setSlot k ((s.slot k).unboundAt i)).trapOf k = (s.freed k).trapOf k := trapOf_setSlot rfl
  unfold insertRunStep
  dsimp only
  rw [unbindSlot_standsAt, room, trap]
  simp only [decide_eq_true_iff]
  split
  · rw [State.slot_setSlot_same]
    refine congrArg (StepFlow.mk · (some n)) ?_
    rw [← nextRunId_freed (s := s) (k := k)]
    exact State.updSlot_setSlot (s := (s.freed k).launched k) _ _
  · unfold boundId
    rw [State.slot_standsAt]

/-- REMOVE RUN of the slot's run. -/
theorem removeRunStep_bound {x : Run} (n : Nat) (hb : (s.slot k).bound = some x.id) (hx : s.run x.id = some x) :
    removeRunStep k n s = ⟨(removeRun .received x (s.trapOf k) 0 s).updSlot k
      (fun r => { r with bound := none, count := r.count - 1 }), some n⟩ := by
  unfold removeRunStep
  rw [hb, Option.bind_some, hx]

theorem removeRunStep_unbound (n : Nat) (hb : (s.slot k).bound = none) :
    removeRunStep k n s = terminate k .stepFailed 0 s := by
  unfold removeRunStep boundId
  rw [hb]
  rfl

/-- No other slot is bound to a slot's run, where the bindings are mirrored. -/
theorem State.BindingsMirrored.other {id : Nat} (hm : s.BindingsMirrored) (hb : (s.slot k).bound = some id) {j : SlotId}
    (h : j ≠ k) : (s.slot j).bound ≠ some id := by
  obtain ⟨⟨nodup, -⟩, named, -, -⟩ := hm
  intro hj
  obtain ⟨x, hx, rfl, hxk⟩ := named k id hb
  obtain ⟨y, hy, hid, hyj⟩ := named j x.id hj
  rw [List.inj_on_of_nodup_map nodup hy hx hid, hxk] at hyj
  exact h (Option.some.inj hyj).symm

/-- A bound run stands in the run table, where the bindings are mirrored. -/
theorem State.BindingsMirrored.run {id : Nat} (hm : s.BindingsMirrored) (hb : (s.slot k).bound = some id) :
    ∃ x, x.id = id ∧ s.run id = some x := by
  obtain ⟨y, hy, hid, -⟩ := hm.2.1 k id hb
  cases hf : s.run id with
  | none => exact absurd (by simpa using hid) (List.find?_eq_none.1 hf y hy)
  | some x => exact ⟨x, (s.run_mem hf).2, rfl⟩

/-- What REMOVE RUN leaves of a slot that goes on to a step with this countdown. -/
def State.runRemoved (s : State) (k : SlotId) (i : Nat) (x : Run) (countdown : Nat) : State :=
  ((removeRun .received x (s.trapOf k) 0 (s.standsAt k i 0)).updSlot k
    (fun r => { r with bound := none, count := r.count - 1 })).standsAt k (i + 1) countdown

theorem removeRun_slot (w : WayOut) (x : Run) (point detail : Nat) :
    (removeRun w x point detail s).slot k =
      { s.slot k with bound := if (s.slot k).bound = some x.id then none else (s.slot k).bound } := takeOut_slot w x.id

theorem runRemoved_slot {x : Run} (c : Nat) : (s.runRemoved k i x c).slot k =
    { s.slot k with step := some (i + 1), countdown := c, order := .none, count := (s.slot k).count - 1, bound := none } := by
  unfold State.runRemoved
  rw [State.slot_standsAt, State.slot_updSlot_same, removeRun_slot, State.slot_standsAt]

theorem runRemoved_slot_ne {x : Run} {c : Nat} (hm : s.BindingsMirrored) (hb : (s.slot k).bound = some x.id) {j : SlotId}
    (h : j ≠ k) : (s.runRemoved k i x c).slot j = s.slot j := by
  have same : (s.standsAt k i 0).slot j = s.slot j := State.slot_updSlot_ne _ h
  unfold State.runRemoved
  rw [show ∀ u : State, (u.standsAt k (i + 1) c).slot j = u.slot j from fun _ => State.slot_updSlot_ne _ h,
    State.slot_updSlot_ne _ h, removeRun_slot, same, if_neg (hm.other hb h)]

theorem runRemoved_eq (x : Run) (c : Nat) : s.runRemoved k i x c = { s with
    tracker := s.tracker.without .received x.id
    seq := (s.runRemoved k i x c).seq
    log := s.logWith (s.record .runReceived x.id (s.trapOf k) (slotNumber x.bound) 0) } := by
  unfold State.runRemoved
  rw [removeRun_eq]
  rfl

/-- The first free id after the last assigned one (R29). -/
theorem nextRunId_first (hl : s.tracker.lastId ≤ 255) (room : s.tracker.runs.length < 16) :
    (∀ y ∈ s.tracker.runs, y.id ≠ s.nextRunId) ∧
    ∃ d, d < 17 ∧ s.nextRunId = (s.tracker.lastId + d) % 255 + 1 ∧
      ∀ e, e < d → ∃ y ∈ s.tracker.runs, y.id = (s.tracker.lastId + e) % 255 + 1 := by
  have few (n : Nat) (h : 16 ≤ n) : (s.tracker.runs.map Run.id).length < n := by rw [List.length_map]; omega
  obtain ⟨d', hd', hfree⟩ := exists_free_id s.tracker.lastId 17 _ (few 17 (by decide)) (by decide)
  obtain ⟨d, -, he, free, held⟩ := freeIdFrom_spec 255 s.tracker.lastId _ hl ⟨d', by omega, hfree⟩
  have hid : s.nextRunId = (s.tracker.lastId + d) % 255 + 1 := he
  refine ⟨fun y hy e => free (hid ▸ e ▸ List.mem_map_of_mem hy), d, ?_, hid, fun e h => List.mem_map.1 (held e h)⟩
  by_contra hge
  exact hfree (held d' (by omega))

/-- What an event of one slot leaves beside that slot, the run table, the log and the conditions. -/
structure Aside (k : SlotId) (s t : State) : Prop where
  slots : ∀ j, j ≠ k → t.slot j = s.slot j ∧ t.order j = s.order j
  interlock : t.interlock = s.interlock
  tables : t.tables = s.tables
  matcher : t.matcher = s.matcher
  scan : t.scan = s.scan
  portB : t.portB = { s.portB with orders := t.portB.orders }
  lines : t.lines = s.lines

theorem State.freed_unbound (h : (s.slot k).bound = none) : s.freed k = s := by
  unfold State.freed
  rw [h]
  simp

theorem Slot.unboundAt_eq {x : Slot} (h : x.bound = none) :
    x.unboundAt i = { x with step := some i, order := .none, countdown := 0 } := by
  unfold Slot.unboundAt
  rw [← h]

/-- What a failed INSERT RUN or REMOVE RUN leaves. -/
def State.runStepFailed (s : State) (k : SlotId) (i : Nat) : State :=
  (raise 9 ((s.freed k).concluded k .stepFailed ((s.slot k).bound.getD 0) i)).setSlot k
    { ((s.slot k).unboundAt i).endedBy .stepFailed with state := .failed }

theorem runStepFailed_aside : Aside k s (s.runStepFailed k i) where
  slots _ h := setSlot_rest (s := raise 9 { s.freed k with log := _ }) h
  interlock := rfl
  tables := rfl
  matcher := rfl
  scan := rfl
  portB := rfl
  lines := rfl

theorem runStep_fails (h : beginStep k i false s =
    terminate k .stepFailed ((s.slot k).bound.getD 0) ((s.freed k).setSlot k ((s.slot k).unboundAt i))) :
    startStep k i s = s.runStepFailed k i := by
  rw [terminate_failed (s := s.freed k) (x := (s.slot k).unboundAt i) rfl] at h
  exact startStep_stops h

theorem beginStep_insert (h : s.stepAt i = some r) (ha : r.action = .insertRun) :
    beginStep k i false s = if s.tracker.runs.length < 16 then
      ⟨((s.freed k).launched k).setSlot k { (s.slot k).unboundAt i with
        bound := some s.nextRunId, count := (s.slot k).count - 1 }, some (i + 1)⟩
    else terminate k .stepFailed ((s.slot k).bound.getD 0) ((s.freed k).setSlot k ((s.slot k).unboundAt i)) := by
  have hl : r.load = 0 := by unfold StepRec.load; rw [ha]
  rw [beginStep_eq h, startAction_insert ha, hl, insertRunStep_standsAt]

theorem beginStep_remove (h : s.stepAt i = some r) (ha : r.action = .removeRun) :
    beginStep k i false s = removeRunStep k (i + 1) (s.standsAt k i 0) := by
  have hl : r.load = 0 := by unfold StepRec.load; rw [ha]
  rw [beginStep_eq h, startAction_remove ha, hl]

/-- The slot goes on to a step that waits for a passage. -/
theorem startStep_passage {next : StepRec} {u : State} {j : Nat} (h : beginStep k i false s = ⟨u, some j⟩) (hu : u.tables = s.tables)
    (hn : s.stepAt j = some next) (hw : next.action = .awaitPassage) :
    startStep k i s = u.standsAt k j next.timeout := by
  have hn' : u.stepAt j = some next := by rw [← hn]; unfold State.stepAt; rw [hu]
  rw [startStep_handsOn h hn' (.inr (.inr hw)), ← StepRec.load_of_waits (r := next) (by simp [hw])]
  exact startStep_stops ((beginStep_eq hn').trans (startAction_passage hw))

theorem runRemoved_aside {x : Run} {c : Nat} (hm : s.BindingsMirrored) (hb : (s.slot k).bound = some x.id) :
    Aside k s (s.runRemoved k i x c) :=
  have kept := runRemoved_eq (s := s) (k := k) (i := i) x c
  { slots := fun j hj => ⟨runRemoved_slot_ne hm hb hj, (congrArg (State.order · j) kept).trans rfl⟩
    interlock := (congrArg State.interlock kept).trans rfl
    tables := (congrArg State.tables kept).trans rfl
    matcher := (congrArg State.matcher kept).trans rfl
    scan := (congrArg State.scan kept).trans rfl
    portB := by rw [congrArg State.portB kept]
    lines := (congrArg State.lines kept).trans rfl }

/-- Settles O39. -/
theorem runStepsInsertAndRemove : Obligations.RunStepsInsertAndRemove := by
  intro k i r next s counted mirrored hr hn hw running t bound others trap cls standing fails
  obtain ⟨-, -, last, -⟩ := counted
  have failure : fails others = (_ ∧ _ ∧ _ ∧ _ ∧ _) := rfl
  have failed (h : t = s.runStepFailed k i) : Aside k s t ∧ fails others := by
    rw [failure, h]
    exact ⟨runStepFailed_aside, rfl, State.slot_setSlot_same _ _ _, State.order_setOrder_same _ _ _, rfl, rfl⟩
  have unbound (hb : bound = none) : s.tracker.runs = others := by
    show _ = s.tracker.runs.map _
    rw [hb]
    simp
  have inserts (ha : r.action = .insertRun) (room : s.tracker.runs.length < 16) :
      t = ((s.freed k).launched k).setSlot k { standing with bound := some s.nextRunId } := by
    have begins := (beginStep_insert (k := k) hr ha).trans (if_pos room)
    exact (startStep_passage begins rfl hn hw).trans (State.standsAt_setSlot _ _)
  have removes {x : Run} (ha : r.action = .removeRun) (hb : bound = some x.id) (hx : s.run x.id = some x) :
      t = s.runRemoved k i x next.timeout := by
    have begins := (beginStep_remove (k := k) hr ha).trans
      (removeRunStep_bound (s := s.standsAt k i 0) (i + 1) (by rw [State.slot_standsAt]; exact hb) hx)
    rw [show (s.standsAt k i 0).trapOf k = s.trapOf k from trapOf_setSlot rfl] at begins
    exact startStep_passage begins (by rw [removeRun_eq]; rfl) hn hw
  have unremoved (ha : r.action = .removeRun) (hb : bound = none) : t = s.runStepFailed k i := by
    have begins := (beginStep_remove (k := k) hr ha).trans
      (removeRunStep_unbound (s := s.standsAt k i 0) (i + 1) (by rw [State.slot_standsAt]; exact hb))
    refine runStep_fails (begins.trans ?_)
    rw [State.freed_unbound hb, Slot.unboundAt_eq hb]
    exact congrArg (fun b : Option Nat => terminate k .stepFailed (b.getD 0) (s.standsAt k i 0)) hb.symm
  have apart {u : State} {x : Slot} (h : t = u.setSlot k x) (hu : u = { s with
      tracker := u.tracker, log := u.log, mgmt := u.mgmt, portA := u.portA, fresh := u.fresh, pending := u.pending }) :
      Aside k s t := by
    rw [h, hu]
    exact ⟨fun j hj => ⟨State.slot_setSlot_ne _ _ hj, rfl⟩, rfl, rfl, rfl, rfl, rfl, rfl⟩
  refine ⟨fun ha => ?_, fun ha room => ?_, fun ha full => ?_, fun x ha hb hx => ?_, fun ha hb => ?_⟩
  · obtain ⟨slots, interlock, tables, matcher, scan, portB, lines⟩ : Aside k s t := by
      obtain ha | ha := ha
      · by_cases room : s.tracker.runs.length < 16
        · exact apart (inserts ha room) rfl
        · exact (failed (runStep_fails ((beginStep_insert hr ha).trans (if_neg room)))).1
      · cases hb : bound with
        | none => exact (failed (unremoved ha hb)).1
        | some id =>
          obtain ⟨x, rfl, hx⟩ := mirrored.run hb
          rw [removes ha hb hx]
          exact runRemoved_aside mirrored hb
    exact ⟨slots, interlock, tables, matcher, scan, portB, lines⟩
  · obtain ⟨fresh, first⟩ := nextRunId_first last room
    have id : ((s.freed k).launchedRun k).id = s.nextRunId := nextRunId_freed
    refine ⟨(s.freed k).launchedRun k, ?_⟩
    rw [inserts ha room, id]
    refine ⟨rfl, ?_, fresh, first, ?_, State.slot_setSlot_same _ _ _, ?_, rfl, rfl⟩
    · rw [← id]
      rfl
    · rw [← nextRunId_freed (s := s) (k := k)]
      rfl
    · rw [← nextRunId_freed (s := s) (k := k)]
      rfl
  · exact (failed (runStep_fails ((beginStep_insert hr ha).trans (if_neg (by omega))))).2
  · have kept := runRemoved_eq (s := s) (k := k) (i := i) x next.timeout
    rw [removes ha hb hx]
    exact ⟨(congrArg State.tracker kept).trans rfl, runRemoved_slot _, (congrArg State.log kept).trans rfl, (congrArg State.mgmt kept).trans rfl,
      (congrArg (State.order · k) kept).trans rfl⟩
  · rw [unbound hb]
    exact (failed (unremoved ha hb)).2

end Sys2Proof.Machine
end

section
/-! PROOF. The slots' part of a second event and the countdowns that end as rows (O37). -/

namespace Sys2Proof.Machine

variable {s : State} {k : SlotId} {i : Nat} {r : StepRec}

/-! ### One slot's part -/

/-- The slot has no part in a second event. -/
def State.Still (s : State) (k : SlotId) : Prop := (s.slot k).state ≠ .running ∧ (s.slot k).state ≠ .spacing

theorem tickSlot_still (h : s.Still k) : tickSlot s k = s := by
  obtain ⟨hr, hs⟩ := h
  unfold tickSlot
  split
  · next e => exact absurd e hr
  · next e => exact absurd e hs
  · rfl

theorem tickSlot_others_still {j : SlotId} (h : s.Still j) (hj : j ≠ k) : (tickSlot s k).Still j := by
  have slots := (tickSlot_sequenced s k).slots j hj
  unfold State.Still at *
  rw [slots]
  exact h

theorem tickSlots_outside (h : s.mgmt.mode ≠ .guarded) : tickSlots s = s := if_neg h

/-- Where one slot alone has a part, the slots' part is that slot's. -/
theorem tickSlots_alone (hm : s.mgmt.mode = .guarded) (alone : ∀ j, j ≠ k → s.Still j) : tickSlots s = tickSlot s k := by
  have still (ks : List SlotId) (t : State) (h : ∀ j ∈ ks, t.Still j) : ks.foldl tickSlot t = t := by
    induction ks with
    | nil => rfl
    | cons j js ih =>
      rw [List.foldl_cons, tickSlot_still (h j (List.mem_cons_self ..))]
      exact ih fun l hl => h l (List.mem_cons_of_mem _ hl)
  obtain ⟨before, after, split, -⟩ := slotIds_split k
  have distinct := slotIds_nodup
  rw [split, List.nodup_append] at distinct
  obtain ⟨-, hk, apart⟩ := distinct
  rw [List.nodup_cons] at hk
  unfold tickSlots
  rw [if_pos hm, split, List.foldl_append, List.foldl_cons,
    still before s fun j hj => alone j (apart j hj k (List.mem_cons_self ..))]
  refine still after _ fun j hj => ?_
  have hne : j ≠ k := fun e => hk.1 (e ▸ hj)
  exact tickSlot_others_still (alone j hne) hne

theorem countSlotDown_zero {f : State → State} (h : (s.slot k).countdown = 0) : countSlotDown k f s = s := if_pos h

theorem countSlotDown_one {f : State → State} (h : (s.slot k).countdown = 1) :
    countSlotDown k f s = f (s.updSlot k (fun x => { x with countdown := 0 })) := by
  unfold countSlotDown
  dsimp only
  rw [h]
  rfl

theorem countSlotDown_more {f : State → State} (h : 2 ≤ (s.slot k).countdown) :
    countSlotDown k f s = s.updSlot k (fun x => { x with countdown := (s.slot k).countdown - 1 }) := by
  unfold countSlotDown
  dsimp only
  rw [if_neg (by omega), if_neg (by omega)]

theorem tickSlot_spacing (h : (s.slot k).state = .spacing) : tickSlot s k = countSlotDown k (spacingEnds k) s := by
  unfold tickSlot
  rw [h]

theorem tickSlot_waits (h : (s.slot k).state = .running) (ha : approachAtTick k s = none) :
    tickSlot s k = countSlotDown k (stepCountdownEnds k) s := by
  unfold tickSlot
  rw [h]
  dsimp only
  rw [ha]

theorem tickSlot_reached {t : State} (h : (s.slot k).state = .running) (ha : approachAtTick k s = some t) :
    tickSlot s k = completeStep k t := by
  unfold tickSlot
  rw [h]
  dsimp only
  rw [ha]

theorem completeStep_eq (h : (s.slot k).step = some i) : completeStep k s = startStep k (i + 1) s := by
  unfold completeStep
  rw [h]
  rfl

/-! ### The approach test of a second event -/

theorem approachAtTick_eq (hr : s.currentStep k = some r) :
    approachAtTick k s = if r.action = .awaitApproach then approachTest k (r.operand.getD 255) r.value s else none := by
  unfold approachAtTick
  rw [hr]

/-- When the approach test of a second event completes the step. -/
theorem approachTest_eq_none {p d : Nat} : approachTest k p d s = none ↔
    ¬ ((∃ id, (s.slot k).bound = some id ∧ ∃ x, s.run id = some x ∧ chainMm s.map p - d * 1000 ≤ x.position) ∨
      ((s.slot k).bound = none ∧ ∃ x, s.foremostFree p = some x ∧ chainMm s.map p - d * 1000 ≤ x.position)) := by
  cases hb : (s.slot k).bound with
  | none =>
    cases hf : s.foremostFree p with
    | none => simp [approachTest_none hb hf]
    | some x => simp [approachTest_free hb hf]
  | some id =>
    cases hx : s.run id with
    | none =>
      have : approachTest k p d s = none := by
        unfold approachTest
        rw [hb]
        dsimp only
        rw [hx]
        rfl
      simp [this, hx]
    | some x => simp [approachTest_bound hb hx, hx]

/-! ### The expiries -/

theorem timeoutStep_continues (hi : (s.slot k).step = some i) (hr : s.stepAt i = some r) (hc : r.continueOn = true) :
    timeoutStep k s = startStep k (i + 1)
      (if (s.order k).elim false (fun o => !o.begun) then s.setOrder k none else s) := by
  have left : withdrawOrder k s = if (s.order k).elim false (fun o => !o.begun) then s.setOrder k none else s := by
    rw [withdrawOrder_eq, State.leftOrder]
    split
    · rfl
    · exact State.setOrder_order
  unfold timeoutStep
  rw [(State.currentStep_eq hi).trans hr, ← left]
  exact (if_pos hc).trans (completeStep_eq (by rw [withdrawOrder_slot, hi]))

theorem timeoutStep_fails (hi : (s.slot k).step = some i) (hr : s.stepAt i = some r) (hc : r.continueOn = false) :
    timeoutStep k s = (raise 9 (s.concluded k .stepFailed ((s.slot k).bound.getD 0) i)).setSlot k
      { (s.slot k).endedBy .stepFailed with state := .failed } := by
  have fails := terminate_failed (s := s) (x := s.slot k) rfl ((s.slot k).bound.getD 0)
  rw [State.setSlot_slot, hi] at fails
  unfold timeoutStep
  rw [(State.currentStep_eq hi).trans hr]
  exact (if_neg (by rw [hc]; decide)).trans (congrArg StepFlow.state fails)

theorem live_onSlot (hp : s.powered = true) (f : SlotId → State → State) :
    ifWf (slotWf k.val) (live (onSlot k.val f) s) = .next (f k s) := by
  rw [ifWf_true (slotWf_val k), live_eq hp]
  unfold onSlot
  rw [slotOfNat_val]
  rfl

theorem State.stepDue_eq {dwell : Bool} (hm : s.mgmt.mode = .guarded) (hs : (s.slot k).state = .running)
    (hc : (s.slot k).countdown = 1) (hr : s.currentStep k = some r) :
    s.stepDue k dwell = ((r.action == .dwell) == dwell) := by
  unfold State.stepDue
  rw [hm, hs, hc, hr]
  rfl

/-- Settles O37. -/
theorem slotCountdownsEnd : Obligations.SlotCountdownsEnd := by
  refine ⟨fun s hm => tickSlots_outside hm, ?_⟩
  intro k s hp hm alone point threshold foremost reached zero counts
  have ticks (h : alone) : tickSlots s = tickSlot s k := tickSlots_alone hm h
  have counting {f : State → State} (h : tickSlot s k = countSlotDown k f s) : counts := fun ha =>
    ⟨fun h0 => (ticks ha).trans (h.trans (countSlotDown_zero h0)), fun h2 => (ticks ha).trans (h.trans (countSlotDown_more h2))⟩
  have slot : zero.slot k = { s.slot k with countdown := 0 } := State.slot_updSlot_same _
  refine ⟨fun hr hs ha => (ticks ha).trans (tickSlot_still ⟨hr, hs⟩), fun running i r hi hr => ⟨fun h => ?_, fun h => ?_⟩,
    fun spacing => ⟨counting (tickSlot_spacing spacing), fun h1 => ?_⟩⟩
  · have current := (State.currentStep_eq hi).trans hr
    have approach := (approachAtTick_eq current).trans (if_pos h.1)
    have test : approachAtTick k s ≠ none := by
      rw [approach, Ne, approachTest_eq_none, not_not]
      exact h.2
    refine ⟨(live_onSlot hp expireStep).trans ?_, fun ha => ⟨fun id hb => ?_, fun x hb hx => ?_⟩⟩
    · obtain ⟨t, ht⟩ := Option.ne_none_iff_exists'.1 test
      unfold expireStep
      rw [ht, if_neg (by simp)]
    · obtain ⟨-, h | h⟩ := h
      · obtain ⟨id', hb', x, hx, hge⟩ := h
        have found := approach.trans ((approachTest_bound hb' hx).trans (if_pos hge))
        rw [ticks ha, tickSlot_reached running found, completeStep_eq hi]
      · exact absurd (hb.symm.trans h.1) nofun
    · have hge : threshold r ≤ x.position := by
        obtain ⟨-, ⟨id, hb', -⟩ | ⟨-, y, hy, hge⟩⟩ := h
        · exact absurd (hb.symm.trans hb') nofun
        · exact Option.some.inj (hx.symm.trans hy) ▸ hge
      have found := approach.trans ((approachTest_free hb hx).trans (if_pos hge))
      rw [ticks ha, tickSlot_reached running found]
      refine completeStep_eq ?_
      show ((s.setSlot k { s.slot k with bound := some x.id }).slot k).step = some i
      rw [State.slot_setSlot_same]
      exact hi
  · have current := (State.currentStep_eq hi).trans hr
    have test : approachAtTick k s = none := by
      rw [approachAtTick_eq current]
      split
      · next ha => exact approachTest_eq_none.2 fun e => h ⟨ha, e⟩
      · rfl
    have waits := tickSlot_waits running test
    have stays : zero.currentStep k = some r := (State.currentStep_eq (by rw [slot]; exact hi)).trans hr
    refine ⟨counting waits, fun h1 => ⟨fun hd => ?_, fun hd => ?_⟩⟩
    · have dwell : tickSlot s k = startStep k (i + 1) zero := by
        rw [waits, countSlotDown_one h1]
        unfold stepCountdownEnds
        rw [stays, Option.elim_some, if_pos (beq_iff_eq.2 hd), completeStep_eq (by rw [slot]; exact hi)]
      have row : exec (.dwellEnd k.val) s = .next (startStep k (i + 1) zero) := by
        refine (live_onSlot hp expireDwell).trans (congrArg _ ?_)
        unfold expireDwell
        rw [State.stepDue_eq hm running h1 current, if_pos (by simp [hd]), countSlotDown_one h1,
          completeStep_eq (by rw [slot]; exact hi)]
      exact ⟨row, fun ha => by rw [row, ticks ha, dwell]⟩
    · have timeout : tickSlot s k = timeoutStep k zero := by
        rw [waits, countSlotDown_one h1]
        unfold stepCountdownEnds
        rw [stays, Option.elim_some, if_neg (by simpa using hd)]
      have row : exec (.stepTimeout k.val) s = .next (timeoutStep k zero) := by
        refine (live_onSlot hp expireStep).trans (congrArg _ ?_)
        unfold expireStep
        rw [State.stepDue_eq hm running h1 current, test, if_pos (by simp [hd]), countSlotDown_one h1]
      have step : (zero.slot k).step = some i := by rw [slot]; exact hi
      refine ⟨fun ha => by rw [row, ticks ha, timeout], fun hc => ?_, fun hc => ⟨_, row, ?_⟩⟩
      · rw [row, timeoutStep_continues step hr hc]
        rfl
      · rw [timeoutStep_fails step hr hc, slot]
        refine ⟨State.slot_setSlot_same _ _ _, fun j hj => ?_, rfl, ?_, State.order_setOrder_same _ _ _, rfl, rfl⟩
        · exact (State.slot_setSlot_ne _ _ hj).trans (State.slot_updSlot_ne (s := s) (fun x => { x with countdown := 0 }) hj)
        · exact endLog_setSlot (s := s) (x := { s.slot k with countdown := 0 }) rfl .stepFailed ((s.slot k).bound.getD 0) i
  · have ends : tickSlot s k = spacingEnds k zero := by rw [tickSlot_spacing spacing, countSlotDown_one h1]
    have row : exec (.spacingEnd k.val) s = .next (spacingEnds k zero) := by
      refine (live_onSlot hp expireSpacing).trans (congrArg _ ?_)
      unfold expireSpacing
      rw [if_pos ⟨hm, spacing, h1⟩, countSlotDown_one h1]
    refine ⟨fun ha => by rw [row, ticks ha, ends], fun he => ?_, fun he => ⟨_, row, ?_⟩⟩
    · rw [row]
      unfold spacingEnds
      rw [slot, if_neg (by rw [he]; decide), State.updSlot_updSlot]
      exact congrArg (fun n => Host.Outcome.next (startStep k n _)) (firstStepOf_setSlot rfl)
    · have ended : spacingEnds k zero = _ := (if_pos (by rw [slot]; exact he)).trans
        (congrArg StepFlow.state ((terminate_setSlot (s := s) (x := { s.slot k with countdown := 0 }) rfl
          (cause := .endRequest) (fun _ => rfl) (boundId zero k)).trans (afterTermination_endRequest _)))
      rw [ended]
      exact ⟨State.slot_setSlot_same _ _ _, fun j hj => State.slot_setSlot_ne _ _ hj, rfl, rfl, rfl⟩

end Sys2Proof.Machine
end

section
/-! PROOF. Rows of requests, and the slot requests that act by state (O49). -/

namespace Sys2Proof.Machine

variable {s : State} {k : SlotId} {i : Nat} {q : Request}

/-! ### The row of a request -/

section Row

variable {code : Nat} {args : List Byte} {len : List Byte → Bool} {body : List Byte → State → Served}

/-- A request of the right length is answered as its body says. -/
theorem request_answers (h : s.serving q code args = true) (hc : code < 256) (hl : len args = true) {t : State} {status : Nat}
    {data : List Byte} (hb : body args s = ⟨t, status, data⟩) (hw : t.mgmt.waiting = s.mgmt.waiting) :
    request code len body s = .next (t.answered q code status data) := by
  rw [request_serving h hc len body fun _ => by rw [hb]; exact hw, if_pos hl, hb]

theorem request_refused (h : s.serving q code args = true) (hc : code < 256) (hl : len args = true) {status : Nat}
    (hb : body args s = refuse status s) : request code len body s = .next (s.answered q code status []) :=
  request_answers h hc hl hb rfl

theorem request_served (h : s.serving q code args = true) (hc : code < 256) (hl : len args = true) {data : List Byte}
    (hb : body args s = served data s) : request code len body s = .next (s.answered q code 0 data) :=
  request_answers h hc hl hb rfl

end Row

/-! ### A request to a slot (R128) -/

section SlotRow

variable {takes : SlotState → Bool} {body : SlotId → State → Served} {args : List Byte}

theorem slotRequest_outside (h : 3 < byteAt args 0) : slotRequest takes body args s = refuse stOutOfRange s := by
  unfold slotRequest
  rw [slotOfNat_eq_none.2 h]

theorem slotRequest_wrongState (h : k.val = byteAt args 0) (ht : takes (s.slot k).state = false) :
    slotRequest takes body args s = refuse stWrongState s := by
  unfold slotRequest
  rw [slotOfNat_eq_some.2 h]
  exact if_neg (by rw [ht]; decide)

theorem slotRequest_taken (h : k.val = byteAt args 0) (ht : takes (s.slot k).state = true) :
    slotRequest takes body args s = body k s := by
  unfold slotRequest
  rw [slotOfNat_eq_some.2 h]
  exact if_pos ht

theorem byteAt_slot (k : SlotId) : k.val = byteAt [byte k.val] 0 := by
  show k.val = (byte k.val).toNat
  rw [byte_toNat]
  omega

/-- The refusals of a slot request. -/
theorem slotRow_refuses {row : Instr} {code : Nat} {b : Byte}
    (hrow : exec row s = request code (hasLength 1) (slotRequest takes body) s) (h : s.serving q code [b] = true)
    (hc : code < 256) : (3 < b.toNat → exec row s = .next (s.answered q code 4 [])) ∧
      ∀ j : SlotId, j.val = b.toNat → takes (s.slot j).state = false → exec row s = .next (s.answered q code 15 []) :=
  ⟨fun hb => hrow.trans (request_refused h hc rfl (slotRequest_outside hb)),
    fun _ hj ht => hrow.trans (request_refused h hc rfl (slotRequest_wrongState hj ht))⟩

/-- A slot request that its state takes. -/
theorem slotRow_takes {row : Instr} {code : Nat} {t : State} {status : Nat} {data : List Byte}
    (hrow : exec row s = request code (hasLength 1) (slotRequest takes body) s) (h : s.serving q code [byte k.val] = true)
    (hc : code < 256) (ht : takes (s.slot k).state = true) (hb : body k s = ⟨t, status, data⟩)
    (hw : t.mgmt.waiting = s.mgmt.waiting) : exec row s = .next (t.answered q code status data) :=
  hrow.trans (request_answers h hc rfl ((slotRequest_taken (byteAt_slot k) ht).trans hb) hw)

end SlotRow

/-! ### Ends of trains from outside the program -/

theorem terminateNow_eq {cause : Cause} (hc : ∀ t, causeCondition cause t = t) : terminateNow k cause s =
    (afterTermination k cause ((s.concluded k cause ((s.slot k).bound.getD 0) ((s.slot k).step.getD 255)).setSlot k
      ((s.slot k).endedBy cause))).state := by
  have eq := terminate_setSlot (s := s) (x := s.slot k) rfl hc ((s.slot k).bound.getD 0)
  rw [State.setSlot_slot] at eq
  exact congrArg StepFlow.state eq

theorem terminateNow_endRequest : terminateNow k .endRequest s =
    (s.concluded k .endRequest ((s.slot k).bound.getD 0) ((s.slot k).step.getD 255)).setSlot k { s.slot k with
      state := .armed, step := none, countdown := 0, order := .none, endRequested := false, count := (s.slot k).base
      cause := some .endRequest } := by
  rw [terminateNow_eq fun _ => rfl, afterTermination_endRequest]
  rfl

/-- A slot whose train is dropped (R132). -/
def Slot.dropped (r : Slot) : Slot :=
  { r with
    state := .idle, step := none, countdown := 0, order := .none, permit := false, reserved := [], chain := none
    count := r.base, bound := none }

theorem dropTrain_setSlot {x : Slot} (h : x.bound = (s.slot k).bound) :
    dropTrain k (s.setSlot k x) = releaseValves k ((s.freed k).setSlot k x.dropped) := by
  unfold dropTrain
  rw [reloadCount_setSlot, unbindSlot_setSlot (x := { x with count := x.base }) h, State.updSlot_setSlot, enterIdle_setSlot]
  rfl

/-- What dropping a train leaves. -/
def State.trainDropped (s : State) (k : SlotId) (cause : Cause) : State :=
  releaseValves k (((s.concluded k cause ((s.slot k).bound.getD 0) ((s.slot k).step.getD 255)).freed k).setSlot k
    ((s.slot k).endedBy cause).dropped)

theorem terminateNow_drops {cause : Cause} (hc : cause.Drops) : terminateNow k cause s = s.trainDropped k cause := by
  unfold State.trainDropped
  obtain rfl | rfl | rfl := hc
  all_goals
    rw [terminateNow_eq fun _ => rfl]
    exact dropTrain_setSlot rfl

/-! ### RESUME (R133) -/

theorem restartStep_eq (hi : (s.slot k).step = some i) (keep : Bool) :
    restartStep keep k s = runSteps stepFuel k i keep (s.setSlot k { s.slot k with state := .running }) := by
  unfold restartStep
  rw [hi]
  rfl

theorem State.updSlot_standsAt (c : Nat) (o : Option SlotOrder) (f : Slot → Slot) :
    ((s.standsAt k i c).setOrder k o).updSlot k f =
      (s.setOrder k o).setSlot k (f { s.slot k with step := some i, order := .none, countdown := c }) :=
  State.updSlot_setSlot (s := s.setOrder k o) _ f

/-- A step begun again as at first goes on as at first. -/
theorem runSteps_first {n : Nat} {keep : Bool} (h : beginStep k i keep s = beginStep k i false s) :
    runSteps (n + 1) k i keep s = runSteps (n + 1) k i false s := by
  rw [runSteps, runSteps, h]

theorem issueOrder_standsAt {r : StepRec} (hr : s.stepAt i = some r) (c d : Nat) :
    (issueOrder k (s.standsAt k i c)).updSlot k (fun x => { x with countdown := d }) = issueOrder k (s.standsAt k i d) := by
  have step (c : Nat) : ((s.standsAt k i c).slot k).step = some i := by rw [State.slot_standsAt]
  have orders (c : Nat) : (s.standsAt k i c).order k = s.order k := rfl
  have frame : stepOrderFrame k (s.standsAt k i c) = stepOrderFrame k (s.standsAt k i d) := by
    rw [stepOrderFrame_eq (step c) hr, stepOrderFrame_eq (step d) hr]
    rfl
  by_cases h : s.order k = none
  · rw [issueOrder_placed ((orders c).trans h), issueOrder_placed ((orders d).trans h), frame, State.updSlot_updSlot,
      State.updSlot_standsAt, State.updSlot_standsAt]
  · have kept (c : Nat) (f : Slot → Slot) : (s.standsAt k i c).updSlot k f =
        s.setSlot k (f { s.slot k with step := some i, order := .none, countdown := c }) := State.updSlot_setSlot _ f
    rw [issueOrder_awaits (by rwa [orders]), issueOrder_awaits (by rwa [orders]), State.updSlot_updSlot, kept, kept]

/-- Settles O49. -/
theorem slotRequestsActByState : Obligations.SlotRequestsActByState := by
  refine ⟨fun x hx => ?refused, ?taken⟩
  case refused =>
    have outside {takes : SlotState → Bool} {body : SlotId → State → Served} {row : Instr} {code : Nat} {sts : List SlotState}
        (hrow : ∀ s, exec row s = request code (hasLength 1) (slotRequest takes body) s) (hc : code < 256)
        (ht : ∀ st, st ∉ sts → takes st = false) (q : Request) (b : Byte) (s : State) (h : s.serving q code [b] = true) :
        (3 < b.toNat → exec row s = .next (s.answered q code 4 [])) ∧
        ∀ j : SlotId, j.val = b.toNat → (s.slot j).state ∉ sts → exec row s = .next (s.answered q code 15 []) :=
      have refuses := slotRow_refuses (hrow s) h hc
      ⟨refuses.1, fun j hj hst => refuses.2 j hj (ht _ hst)⟩
    simp only [List.mem_cons, List.not_mem_nil, or_false] at hx
    obtain rfl | rfl | rfl | rfl | rfl := hx
    · exact outside (takes := SlotState.takesStart) (fun _ => rfl) (by decide) fun st => by cases st <;> decide
    · exact outside (takes := SlotState.takesEnd) (fun _ => rfl) (by decide) fun st => by cases st <;> decide
    · exact outside (takes := (· != .idle)) (fun _ => rfl) (by decide) fun st => by cases st <;> decide
    · exact outside (takes := (· == .observe)) (fun _ => rfl) (by decide) fun st => by cases st <;> decide
    · exact outside (takes := (· == .failed)) (fun _ => rfl) (by decide) fun st => by cases st <;> decide
  intro q k s bound step running left rest
  refine ⟨fun h hs => ?_, ?_, fun h hs => ⟨?_, ?_⟩, fun h => ⟨fun hs => ?_, fun hs => ?_⟩, fun h hs => ?_⟩
  · exact slotRow_takes (takes := SlotState.takesStart) rfl h (by decide) (by obtain hs | hs := hs <;> rw [hs] <;> rfl) rfl
      (startStep_sequenced _ _ _).waiting
  · intro i h hs hi
    have again : restartStep false k s = startStep k i running := restartStep_eq hi false
    rw [← again]
    exact slotRow_takes (takes := (· == .failed)) (body := fun k s => served [] (restartStep false k s)) rfl h (by decide)
      (by rw [hs]; rfl) rfl (by rw [again]; exact (startStep_sequenced _ _ _).waiting)
  · rintro ⟨p, v, hp, hv, hl⟩
    have local_ : s.allRemote k = false := by
      unfold State.allRemote
      rw [List.all_eq_false]
      exact ⟨p, hp, by simp [hv, hl]⟩
    exact slotRow_takes (takes := (· == .observe)) rfl h (by decide) (by rw [hs]; rfl)
      (if_neg (by rw [local_]; decide)) rfl
  · intro i o remote hi ho resumed waits next point threshold foremost
    have allRemote : s.allRemote k = true := by
      unfold State.allRemote
      rw [List.all_eq_true]
      intro p hp
      cases hv : s.valve p with
      | none => rfl
      | some v => simp [remote p v hp hv]
    have slot : running.slot k = { s.slot k with state := .running } := State.slot_setSlot_same _ _ _
    have resumes {u : State} (hu : runSteps stepFuel k i true running = u) : resumed u := by
      have again : restartStep true k s = u := (restartStep_eq hi true).trans hu
      refine slotRow_takes (takes := (· == .observe)) rfl h (by decide) (by rw [hs]; rfl)
        ((if_pos allRemote).trans (congrArg (served []) again)) ?_
      rw [← hu]
      exact (runSteps_sequenced _ _ _ _ _).waiting
    have kept (hu : o.usesCountdown = true) : beginStep k i true running =
        startAction k i o (running.standsAt k i (s.slot k).countdown) := by
      rw [beginStep_kept (s := running) ho, if_pos hu, slot]
    have stood : running.standsAt k i (s.slot k).countdown = s.setSlot k { s.slot k with state := .running, order := .none } := by
      rw [State.standsAt_setSlot, ← hi]
    have at_ : (running.standsAt k i (s.slot k).countdown).slot k = { s.slot k with
        state := .running, step := some i, order := .none } := by rw [State.slot_standsAt, slot]
    have waiting (hu : o.usesCountdown = true)
        (ha : startAction k i o (running.standsAt k i (s.slot k).countdown) = ⟨running.standsAt k i (s.slot k).countdown, none⟩) :
        waits := resumes ((runSteps_stops (n := 2047) ((kept hu).trans ha)).trans stood)
    have handsOn {u : State} (hu : o.usesCountdown = true) (ht : u.tables = s.tables) (hn : next)
        (ha : startAction k i o (running.standsAt k i (s.slot k).countdown) =
          ⟨u.standsAt k i (s.slot k).countdown, some (i + 1)⟩) : resumed (startStep k (i + 1) u) := by
      obtain ⟨n, hn, w⟩ := hn
      have hn' : u.stepAt (i + 1) = some n := by rw [← hn]; unfold State.stepAt; rw [ht]
      exact resumes ((runSteps_handsOn (n := 2046) ((kept hu).trans ha) hn' w).trans (startStep_standsAt hn' _))
    refine ⟨fun ha => ?_, fun ha => ?_, fun ha => ?_, fun ha => ⟨fun hc => ?_, fun hc hn => ?_⟩, fun p st hp ha => ?_,
      fun ha => ⟨fun id x hb hx => ?_, fun hb hx => ?_, fun x hb hx => ?_⟩⟩
    · have unused : o.usesCountdown = false := by unfold StepRec.usesCountdown; obtain ha | ha | ha := ha <;> rw [ha]
      refine resumes (runSteps_first (n := 2047) ?_)
      rw [beginStep_kept (s := running) ho, beginStep_eq (s := running) ho, if_neg (by rw [unused]; decide)]
    · have uses : o.usesCountdown = true := by unfold StepRec.usesCountdown; obtain ha | ha := ha <;> rw [ha]
      have first := startStep_stops ((beginStep_eq (s := running) (k := k) ho).trans (startAction_order ha))
      rw [first, issueOrder_standsAt (s := running) ho]
      exact resumes (runSteps_stops (n := 2047) ((kept uses).trans (startAction_order ha)))
    · exact waiting (by unfold StepRec.usesCountdown; rw [ha]) (startAction_passage ha)
    · exact waiting (by unfold StepRec.usesCountdown; rw [ha])
        ((startAction_dwell ha).trans (by rw [at_]; exact congrArg _ (if_neg hc)))
    · exact handsOn (by unfold StepRec.usesCountdown; rw [ha]) rfl hn
        ((startAction_dwell ha).trans (by rw [at_]; exact congrArg _ (if_pos hc)))
    · have uses : o.usesCountdown = true := by unfold StepRec.usesCountdown; obtain ha | ha := ha <;> rw [ha.1]
      have action := startAction_verify (k := k) (i := i) (s := running.standsAt k i (s.slot k).countdown) hp ha
      rw [show (running.standsAt k i (s.slot k).countdown).believed p st = s.believed p st from rfl] at action
      exact ⟨fun hb => waiting uses (action.trans (by rw [hb]; rfl)),
        fun hb hn => handsOn uses rfl hn (action.trans (by rw [if_pos hb]))⟩
    all_goals have uses : o.usesCountdown = true := by unfold StepRec.usesCountdown; rw [ha]
    · have action := startAction_approach_bound (k := k) (i := i) (s := running.standsAt k i (s.slot k).countdown) (x := x) ha
        (by rw [at_]; exact hb) hx
      rw [show (running.standsAt k i (s.slot k).countdown).threshold o = threshold from rfl] at action
      exact ⟨fun hlt => waiting uses (action.trans (by rw [if_neg (not_le.2 hlt)])),
        fun hge hn => handsOn uses rfl hn (action.trans (by rw [if_pos hge]))⟩
    · exact waiting uses (startAction_approach_none (s := running.standsAt k i (s.slot k).countdown) ha (by rw [at_]; exact hb) hx)
    · have action := startAction_approach_free (k := k) (i := i) (s := running.standsAt k i (s.slot k).countdown) (x := x) ha
        (by rw [at_]; exact hb) hx
      rw [show (running.standsAt k i (s.slot k).countdown).threshold o = threshold from rfl] at action
      refine ⟨fun hlt => waiting uses (action.trans (by rw [if_neg (not_le.2 hlt)])), fun hge hn => ?_⟩
      rw [if_pos hge, bindSlot_standsAt] at action
      have bound : bindSlot k x.id running = (running.setSlot k { s.slot k with state := .running, bound := some x.id }).updRun
          x.id (fun y => { y with bound := some k }) := by
        unfold bindSlot
        rw [slot]
      rw [bound] at action
      exact handsOn uses rfl hn action
  · refine slotRow_takes (takes := SlotState.takesEnd) (body := fun k s => served [] (requestEnd k s)) rfl h (by decide)
      (by obtain hs | hs := hs <;> rw [hs] <;> rfl) (congrArg (served []) (if_neg ?_)) rfl
    obtain hs | hs := hs <;> rw [hs] <;> decide
  · refine ⟨terminateNow k .endRequest s, slotRow_takes (takes := SlotState.takesEnd)
      (body := fun k s => served [] (requestEnd k s)) rfl h (by decide) (by rw [hs]; rfl) (congrArg (served []) (if_pos hs))
      (terminateNow_sequenced _ _ _).waiting, ?_⟩
    rw [terminateNow_endRequest]
    exact ⟨State.slot_setSlot_same _ _ _, fun j hj => setSlot_rest (s := { s with log := _ }) hj,
      State.order_setOrder_same _ _ _, rfl, rfl, rfl, rfl, rfl, rfl, rfl, rfl, rfl, rfl, rfl, rfl⟩
  · refine ⟨terminateNow k .abort s, slotRow_takes (takes := (· != .idle)) rfl h (by decide) (by simpa using hs) rfl
      (terminateNow_sequenced _ _ _).waiting, ?_⟩
    rw [terminateNow_drops (.inl rfl)]
    exact ⟨State.slot_setSlot_same _ _ _, fun j hj => setSlot_rest (s := { s with log := _ }) hj,
      State.order_setOrder_same _ _ _, rfl, rfl, rfl, rfl, rfl, rfl, rfl, rfl, rfl, rfl, rfl, rfl⟩

end Sys2Proof.Machine
end

section
/-! PROOF. Ends of transmissions on the link: attempts refused and repeated, deliveries, discards (O19, O20, O22). -/

namespace Sys2Proof.Machine

variable {s : State} {k : SlotId} {p : Port} {t : Tx}

/-! ### What holds a port -/

theorem State.holds_spec {ph : TxPhase} (h : s.holds p t ph = true) :
    s.powered = true ∧ (s.link p).tx = some t ∧ t.phase = ph := by
  unfold State.holds at h
  rw [Bool.and_eq_true, Bool.and_eq_true, beq_iff_eq, beq_iff_eq] at h
  exact ⟨h.1.1, h.1.2, h.2⟩

theorem takeReply_awaiting (ht : (s.link p).tx = some t) (ha : t.phase = .awaiting) (b : ReplyByte) :
    takeReply p b s =
      match b with
      | .accept => settleInput (deliver p t s)
      | .wait => refuseAttempt p t s
      | .other => s := by
  unfold takeReply
  rw [ht]
  exact if_pos ha

theorem takeReply_early (h : ∀ u, (s.link p).tx = some u → u.phase ≠ .awaiting) (b : ReplyByte) : takeReply p b s = s := by
  unfold takeReply
  split
  · next u hu => exact if_neg (h u hu)
  · rfl

theorem discardDue_early (ht : (s.link p).tx = some t) (h : t.refusals < 16) : discardDue p s = s := by
  unfold discardDue
  rw [ht]
  exact if_neg (by omega)

theorem discardDue_due (ht : (s.link p).tx = some t) (hr : t.phase = .refused) (h : 16 ≤ t.refusals) :
    discardDue p s = settleInput (discard p t s) := by
  unfold discardDue
  rw [ht]
  exact if_pos ⟨hr, h⟩

theorem repeatOn_a (ht : (s.link .a).tx = some t) (h : s.repeatDue t = true) : repeatOn .a s = transmit .a t s := by
  unfold repeatOn
  rw [ht]
  exact if_pos h

theorem repeatOn_b (ht : (s.link .b).tx = some t) (h : s.repeatDue t = true) : repeatOn .b s = repeatOnB t s := by
  unfold repeatOn
  rw [ht]
  exact if_pos h

theorem repeatOnB_unchecked (h : s.checks t.frame = false) : repeatOnB t s = s.sends .b t := by
  unfold repeatOnB
  exact if_neg (by rw [h]; decide)

theorem repeatDue_refused (hr : t.phase = .refused) (h : t.refusals < 16) : s.repeatDue t = true := by
  unfold State.repeatDue
  rw [hr]
  exact decide_eq_true h

theorem repeatDue_waiting (hr : t.phase = .waitingPlace) : s.repeatDue t = !s.checks t.frame := by
  unfold State.repeatDue
  rw [hr]

/-! ### The request in service stays settled -/

theorem State.inputSettled_congr {t : State} (h : t.mgmt.service = s.mgmt.service) : t.inputSettled = s.inputSettled := by
  unfold State.inputSettled
  rw [h]

theorem settleInput_keeps {t : State} (h : s.inputSettled = true) (ht : t.mgmt.service = s.mgmt.service) : settleInput t = t :=
  settleInput_settled ((State.inputSettled_congr ht).trans h)

theorem warmRestart_settled (straps : BitVec 7) : settleInput (warmRestart straps s) = warmRestart straps s :=
  settleInput_settled rfl

theorem frees_service : (s.frees p).mgmt.service = s.mgmt.service := by cases p <;> rfl

theorem frees_powered : (s.frees p).powered = s.powered := by cases p <;> rfl

/-! ### What leaves its source -/

theorem popAnswer_plain {a : Answer} {rest : List Answer} (h : s.portA.answers = a :: rest) (ha : a.restart = false) :
    popAnswer s = s.setAnswers rest := by
  unfold popAnswer
  rw [h]
  exact if_neg (by rw [ha]; decide)

theorem popAnswer_restart {a : Answer} {rest : List Answer} (h : s.portA.answers = a :: rest) (ha : a.restart = true) :
    popAnswer s = warmRestart s.lines.straps (s.setAnswers rest) := by
  unfold popAnswer
  rw [h]
  exact if_pos ha

theorem loseOrder_eq : loseOrder k s = s.updSlot k (fun r => { r with order := if r.order = .queued then .lost else r.order }) := by
  unfold loseOrder
  split
  · next h => simp only [State.updSlot, h, if_true]
  · next h => exact (State.updSlot_same (by simp only [h, if_false])).symm

/-- The answer queue loses its head, as a delivery and a discard see it (R87, R187). -/
theorem popAnswer_next {row : Instr} {u : State} {a : Answer} {rest : List Answer} {straps : BitVec 7} (hp : u.powered = true)
    (hs : u.inputSettled = true) (hl : u.lines.straps = straps) (h : u.portA.answers = a :: rest)
    (hrow : exec row s = .next (settleInput (popAnswer u))) :
    (a.restart = false → exec row s = .next (u.setAnswers rest)) ∧
      (a.restart = true → exec row s = exec (.warmRestart straps) (u.setAnswers rest)) := by
  refine ⟨fun ha => ?_, fun ha => ?_⟩
  · rw [hrow, popAnswer_plain h ha, settleInput_keeps (t := u.setAnswers rest) hs rfl]
  · rw [hrow, popAnswer_restart h ha, warmRestart_settled, hl]
    exact (live_eq (s := u.setAnswers rest) hp _).symm

/-- Settles O20. -/
theorem acceptDeliversTheTelegram : Obligations.AcceptDeliversTheTelegram := by
  intro p t s h settled
  obtain ⟨hp, ht, ha⟩ := State.holds_spec h
  have row : exec (.linkReply p .accept) s = .next (settleInput (deliver p t s)) :=
    live_next hp (takeReply_awaiting ht ha .accept)
  have kept {u : State} (hd : deliver p t s = u) (hu : u.mgmt.service = s.mgmt.service) :
      exec (.linkReply p .accept) s = .next u := by
    rw [row, hd, settleInput_keeps settled hu]
  have service := frees_service (s := s) (p := p)
  refine ⟨fun hs => kept ?_ service, fun hs => kept ?_ service, fun hs hf => kept ?_ service, fun a rest hs hq => ?_⟩
  · unfold deliver
    rw [hs]
    exact congrArg (State.setUp _) (congrArg List.tail (State.setLink_up ..))
  · unfold deliver
    obtain hs | hs := hs <;> rw [hs] <;> rfl
  · unfold deliver
    rw [hs]
    dsimp only
    rw [hf]
    exact congrArg (State.setDown _) (congrArg List.tail (State.setLink_down ..))
  · refine popAnswer_next (u := s.frees p) (frees_powered.trans hp) ((State.inputSettled_congr service).trans settled)
      (by cases p <;> rfl) ((s.setLink_answers p _).trans hq) (row.trans ?_)
    unfold deliver
    rw [hs]
    rfl

/-- Settles O19. -/
theorem refusedAttemptsEndOrRepeat : Obligations.RefusedAttemptsEndOrRepeat := by
  refine ⟨fun p t s => ⟨fun h => ?_, fun hp h => ?_, fun h => ?_, fun h hr unchecked => ?_⟩, fun p t s h settled => ?_⟩
  · obtain ⟨hp, ht, ha⟩ := State.holds_spec h
    refine live_next hp ?_
    unfold endTransmission
    rw [ht]
    exact if_pos ha
  · exact ⟨fun b => live_next hp (takeReply_early h b), live_next hp (takeReply_early h .wait)⟩
  · obtain ⟨hp, ht, ha⟩ := State.holds_spec h
    have wait : exec (.linkReply p .wait) s = .next (refuseAttempt p t s) := live_next hp (takeReply_awaiting ht ha .wait)
    exact ⟨wait, (live_next hp (takeReply_awaiting ht ha .wait)).trans wait.symm, live_next hp (takeReply_awaiting ht ha .other)⟩
  · obtain ⟨hp, ht, ha⟩ := State.holds_spec h
    have due := repeatDue_refused (s := s) ha hr
    cases p with
    | a => exact live_next hp (repeatOn_a ht due)
    | b =>
      refine live_next hp ((repeatOn_b ht due).trans (repeatOnB_unchecked ?_))
      rw [← Bool.not_eq_true, State.checks_iff]
      rintro ⟨hm, hf⟩
      obtain h | h | h := unchecked
      · cases h
      · exact h hm
      · rw [h] at hf; cases hf
  · obtain ⟨hp, ht, ha⟩ := State.holds_spec h
    refine ⟨fun hr => live_next hp (discardDue_early ht hr), fun hr => ?_⟩
    intro freed
    have row : exec (.telegramDiscard p) s = .next (settleInput (discard p t s)) := live_next hp (discardDue_due ht ha hr)
    have kept {u : State} (hd : discard p t s = u) (hu : u.mgmt.service = s.mgmt.service) :
        exec (.telegramDiscard p) s = .next u := by
      rw [row, hd, settleInput_keeps settled hu]
    have service : freed.mgmt.service = s.mgmt.service := frees_service (s := s) (p := p)
    have powered : freed.powered = true := (frees_powered (s := s) (p := p)).trans hp
    refine ⟨fun hs => kept ?_ service, fun hs => kept ?_ service, fun hs => kept ?_ service, fun a rest hs hq => ?_, fun k hs => ?_⟩
    · unfold discard
      rw [hs]
      exact congrArg (State.setUp _) (congrArg List.tail (State.setLink_up s p _))
    · unfold discard
      rw [hs]
      exact congrArg (State.setDown _) (congrArg List.tail (State.setLink_down s p _))
    · unfold discard
      obtain hs | hs := hs <;> rw [hs] <;> rfl
    · refine popAnswer_next (u := freed) powered ((State.inputSettled_congr service).trans settled)
        (congrArg Lines.straps (State.setLink_lines s p _)) ((s.setLink_answers p _).trans hq) (row.trans ?_)
      unfold discard
      rw [hs]
      rfl
    · refine (kept ?_ ?_).trans (exec_slotOrderPlaced (s := (freed.setOrder k none).updSlot k _) powered k).symm
      · unfold discard
        rw [hs]
        exact congrArg (placeAwaiting k) loseOrder_eq
      · rw [(placeAwaiting_sequenced _ k).service]
        exact service

/-! ### Repeats of checked orders (R92) -/

theorem repeatOnB_down (h : s.checks t.frame = true) (hs : t.source = .down) : repeatOnB t s = repeatDownOrder t s := by
  unfold repeatOnB
  rw [if_pos h, hs]

theorem repeatOnB_slot (h : s.checks t.frame = true) (hs : t.source = .slot k) : repeatOnB t s = repeatSlotOrder k t s := by
  unfold repeatOnB
  rw [if_pos h, hs]

theorem repeatDownOrder_waits (h : t.placeHeld = false) (full : s.freePlaces ≤ s.claimed) :
    repeatDownOrder t s = s.setLink .b { s.link .b with tx := some { t with phase := .waitingPlace } } := by
  have place : s.placeForOrder = false := by
    rw [← Bool.not_eq_true, State.placeForOrder_iff]
    omega
  unfold repeatDownOrder
  exact if_neg (by rw [h, place]; decide)

theorem repeatDownOrder_checked (h : t.placeHeld = true ∨ s.claimed < s.freePlaces) : repeatDownOrder t s = checkDown t s := by
  unfold repeatDownOrder
  refine if_pos ?_
  rw [Bool.or_eq_true, State.placeForOrder_iff]
  exact h

theorem repeatSlotOrder_eq {o : SlotOrder} (h : s.order k = some o) : repeatSlotOrder k t s =
    match checkOrder (.slot k) t.frame s with
    | .forward => sendSlotOrder k o t s
    | .reject reason run slot => dropSlotOrder k o reason run slot (s.updLink .b Link.release)
    | .hold => (s.setOrder k (some { o with begun := false })).updLink .b Link.release := by
  unfold repeatSlotOrder
  rw [h] <;> rfl

theorem takePlace_waiting (ht : s.portB.link.tx = some t) (hw : t.phase = .waitingPlace) : takePlace s =
    if s.checks t.frame then (if s.placeForOrder then checkDown t s else s) else s.sends .b t := by
  unfold takePlace
  rw [ht]
  exact if_pos hw

theorem repeatOn_notDue (ht : (s.link p).tx = some t) (h : s.repeatDue t = false) : repeatOn p s = s := by
  unfold repeatOn
  rw [ht]
  exact if_neg (by rw [h]; decide)

theorem placeAwaiting_placed (hs : (s.slot k).state = .running) (ho : (s.slot k).order = .awaitingPlace) (hn : s.order k = none) :
    placeAwaiting k s = (s.setOrder k (some { frame := stepOrderFrame k s, begun := false, logged := false })).setSlot k
      { s.slot k with order := .queued } := by
  unfold placeAwaiting
  rw [if_pos ⟨hs, ho, hn⟩, issueOrder_placed hn]
  rfl

/-- Settles O22. -/
theorem waitingOrdersTakeTheirPlace : Obligations.WaitingOrdersTakeTheirPlace := by
  refine ⟨fun t s source => ?down, fun k t o s hm h hr source ho frame full => ?slot, fun k s hp => ?place⟩
  case down =>
    intro checked
    refine ⟨fun hm full => ?_, fun hm h => ?_⟩
    · have guarded : s.mgmt.mode ≠ .transparent := by rw [hm]; nofun
      have checks : s.checks t.frame = true := State.checks_iff.2 ⟨hm, full⟩
      have check {row : Instr} (h : exec row s = .next (checkDown t s)) : checked row :=
        ⟨fun hc => h.trans (congrArg _ (checkDown_forward guarded full hc)),
          fun reason run slot hc => h.trans (congrArg _ (checkDown_reject hc))⟩
      refine ⟨fun h hr => ?_, fun h => ?_⟩
      · obtain ⟨hp, ht, ha⟩ := State.holds_spec h
        have row : exec (.repeatTelegram .b) s = .next (repeatDownOrder t s) :=
          live_next hp ((repeatOn_b ht (repeatDue_refused ha hr)).trans (repeatOnB_down checks source))
        exact ⟨fun hh full => row.trans (congrArg _ (repeatDownOrder_waits hh full)),
          fun hh => check (row.trans (congrArg _ (repeatDownOrder_checked hh)))⟩
      · obtain ⟨hp, ht, ha⟩ := State.holds_spec h
        have notDue : s.repeatDue t = false := by rw [repeatDue_waiting ha, checks]; rfl
        have take := (takePlace_waiting ht ha).trans (if_pos checks)
        refine ⟨live_next hp (repeatOn_notDue ht notDue), fun hfull => live_next hp (take.trans (if_neg ?_)),
          fun room => check (live_next hp (take.trans (if_pos (State.placeForOrder_iff.2 room))))⟩
        rw [State.placeForOrder_iff]
        omega
    · obtain ⟨hp, ht, ha⟩ := State.holds_spec h
      have checks : s.checks t.frame = false := by
        rw [← Bool.not_eq_true, State.checks_iff]
        exact fun e => hm e.1
      have due : s.repeatDue t = true := by rw [repeatDue_waiting ha, checks]; rfl
      exact ⟨live_next hp ((repeatOn_b ht due).trans (repeatOnB_unchecked checks)),
        live_next hp ((takePlace_waiting ht ha).trans (if_neg (by rw [checks]; decide)))⟩
  case slot =>
    obtain ⟨hp, ht, ha⟩ := State.holds_spec h
    have checks : s.checks t.frame = true := State.checks_iff.2 ⟨hm, full⟩
    have guarded : s.mgmt.mode ≠ .transparent := by rw [hm]; nofun
    have row : exec (.repeatTelegram .b) s = .next _ := live_next hp ((repeatOn_b ht (repeatDue_refused ha hr)).trans
      ((repeatOnB_slot checks source).trans (repeatSlotOrder_eq ho)))
    refine ⟨fun hc => ?_, fun hc => ?_, fun reason run slot hc => ?_⟩ <;> rw [row, hc]
    · rw [← frame]
      exact congrArg _ (sendSlotOrder_logged guarded (frame ▸ full))
    · rfl
    · rw [← frame]
      exact (exec_slotOrderPlaced (s := { (s.frees .b).setOrder k none with log := _ }) hp k).symm
  case place =>
    rw [exec_slotOrderPlaced hp]
    refine ⟨fun hs ho hn => ⟨_, congrArg _ (placeAwaiting_placed hs ho hn), ?_, rfl, fun n hn h => stepOrderFrame_source hn h, ?_⟩,
      fun h => congrArg _ (if_neg h)⟩
    · exact frameKind_mkFrame ..
    · intro p i r hi _ hr hop
      refine ⟨?_, stepOrderFrame_payload hi hr⟩
      rw [stepOrderFrame_eq hi hr, frameDest_mkFrame, hop]
      rfl

end Sys2Proof.Machine
end

section
/-! PROOF. The delivery of a valve order (O21). -/

namespace Sys2Proof.Machine

variable {s : State} {k : SlotId} {i : Nat} {r : StepRec} {t : Tx}

/-! ### An order that awaits its place has one that stands there -/

/-- A slot whose step order awaits the place finds an order there. -/
def State.Placed (s : State) (k : SlotId) : Prop := (s.slot k).order = .awaitingPlace → s.order k ≠ none

theorem placeAwaiting_of_placed (h : s.Placed k) : placeAwaiting k s = s := by
  unfold placeAwaiting
  exact if_neg fun ⟨_, ho, hn⟩ => h ho hn

theorem State.placed_of_order {o : StepOrder} (h : (s.slot k).order = o) (ho : o ≠ .awaitingPlace) : s.Placed k :=
  fun e => absurd (h.symm.trans e) ho

theorem issueOrder_isPlaced : (issueOrder k s).Placed k := by
  intro h
  rw [issueOrder_slot] at h
  rw [issueOrder_order]
  by_cases hn : s.order k = none
  · rw [if_pos hn] at h; cases h
  · rwa [if_neg hn]

theorem enterSpacing_order : ((enterSpacing k s).state.slot k).order = (s.slot k).order := by
  unfold enterSpacing
  split <;> rw [State.slot_updSlot_same]

theorem enterIdle_order : ((enterIdle k s).slot k).order = .none := by
  unfold enterIdle
  rw [releaseValves_slot, State.slot_updSlot_same]

theorem endByCount_order (h : (s.slot k).order = .none) : ((endByCount k s).state.slot k).order = .none := by
  unfold endByCount
  split
  · rw [enterSpacing_order, State.slot_updSlot_same]
    exact h
  · split
    · exact congrArg Slot.order (State.slot_updSlot_same _)
    · exact enterIdle_order

theorem afterTermination_order (cause : Cause) (h : (s.slot k).order = .none) :
    ((afterTermination k cause s).state.slot k).order = .none := by
  cases cause
  case count => exact endByCount_order h
  case endRequest => exact congrArg Slot.order (State.slot_updSlot_same _)
  case permitWithdrawn => exact congrArg Slot.order (State.slot_updSlot_same _)
  case stepFailed => exact (congrArg Slot.order (State.slot_updSlot_same _)).trans h
  case takeover => exact congrArg Slot.order (State.slot_updSlot_same _)
  all_goals exact enterIdle_order

theorem terminate_order (cause : Cause) (bound : Nat) (h : (s.slot k).order = .none) :
    ((terminate k cause bound s).state.slot k).order = .none := by
  rw [terminate_eq]
  refine afterTermination_order cause ?_
  rw [State.slot_setSlot_same]
  exact h

theorem endStep_order (h : (s.slot k).order = .none) : ((endStep k s).state.slot k).order = .none := by
  have hu : ((unbindSlot k s).slot k).order = .none := by rw [unbindSlot_slot]; exact h
  unfold endStep
  generalize unbindSlot k s = u at hu
  dsimp only
  split
  · exact terminate_order _ _ hu
  split
  · exact terminate_order _ _ hu
  split
  · rwa [enterSpacing_order]
  · rwa [State.slot_updSlot_same]
  · rwa [enterSpacing_order]
  · exact terminate_order _ _ hu

theorem insertRunStep_order (n : Nat) (h : (s.slot k).order = .none) : ((insertRunStep k n s).state.slot k).order = .none := by
  have hu : ((unbindSlot k s).slot k).order = .none := by rw [unbindSlot_slot]; exact h
  unfold insertRunStep
  generalize unbindSlot k s = u at hu
  dsimp only
  split
  · rw [State.slot_updSlot_same]
    exact hu
  · exact terminate_order _ _ hu

theorem removeRunStep_order (n : Nat) (h : (s.slot k).order = .none) : ((removeRunStep k n s).state.slot k).order = .none := by
  unfold removeRunStep
  split
  · rw [State.slot_updSlot_same, removeRun_slot]
    exact h
  · exact terminate_order _ _ h

theorem approachTest_order {p d : Nat} {u : State} (h : (s.slot k).order = .none) (ht : approachTest k p d s = some u) :
    (u.slot k).order = .none := by
  unfold approachTest at ht
  dsimp only at ht
  split at ht
  · split at ht
    · cases ht; exact h
    · cases ht
  · split at ht
    · next x _ =>
      split at ht
      · cases ht
        exact (congrArg Slot.order (s.slot_setSlot_same k { s.slot k with bound := some x.id })).trans h
      · cases ht
    · cases ht

/-- A step that begins leaves no step order, or one that stands in the place or waits behind another. -/
theorem startAction_placed (h : (s.slot k).order = .none) : (startAction k i r s).state.Placed k := by
  have none_ : StepOrder.none ≠ .awaitingPlace := nofun
  unfold startAction
  split
  · exact issueOrder_isPlaced
  · exact issueOrder_isPlaced
  · exact State.placed_of_order h none_
  · exact State.placed_of_order h none_
  · exact State.placed_of_order h none_
  · exact State.placed_of_order (insertRunStep_order _ h) none_
  · exact State.placed_of_order h none_
  · split
    · next u hu => exact State.placed_of_order (approachTest_order h hu) none_
    · exact State.placed_of_order h none_
  · exact State.placed_of_order (removeRunStep_order _ h) none_
  · exact State.placed_of_order (endStep_order h) none_

theorem beginStep_placed (keep : Bool) (h : s.Placed k) : (beginStep k i keep s).state.Placed k := by
  unfold beginStep
  split
  · exact h
  · exact startAction_placed (congrArg Slot.order (State.slot_updSlot_same _))

theorem runSteps_placed (fuel i : Nat) (keep : Bool) (h : s.Placed k) : (runSteps fuel k i keep s).Placed k := by
  induction fuel generalizing i keep s with
  | zero => exact h
  | succ n ih =>
    have begun := beginStep_placed (i := i) keep h
    unfold runSteps
    split
    · next hx => rw [hx] at begun; exact ih _ _ begun
    · next hx => rw [hx] at begun; exact begun

theorem startStep_placed (i : Nat) (h : s.Placed k) : (startStep k i s).Placed k := runSteps_placed _ _ _ h

/-! ### The valve records at a delivery (R105) -/

/-- Table 5-3: what the delivery of an order leaves of a valve's expected order. -/
theorem ValveRec.afterDelivery_eq (travel action : Nat) (orig : Originator) (v : ValveRec) :
    v.afterDelivery travel action orig = { v with
      expected :=
        if action = 1 then (if v.state = .opened then none else some ⟨.opened, travel, orig⟩)
        else if action = 2 then (if v.state = .closed then none else some ⟨.closed, travel, orig⟩)
        else if action = 3 then none
        else v.expected } := by
  unfold ValveRec.afterDelivery
  rw [show actionOpen = 1 from rfl, show actionClose = 2 from rfl, show actionStop = 3 from rfl]
  split_ifs <;> rfl

theorem State.travelLimit_eq {p : Nat} {part : ValvePart} (h : valvePart s.map p = some part) : s.travelLimit p = part.travel := by
  unfold State.travelLimit
  rw [h]
  rfl

theorem deliverOrder_transparent {orig : Originator} {f : Frame} (h : s.mgmt.mode = .transparent) : deliverOrder orig f s = s :=
  if_pos h

theorem deliverOrder_unmapped {orig : Originator} {f : Frame} (hd : frameDest f ≠ 127) (hv : valveOfNode s.map (frameDest f) = none) :
    deliverOrder orig f s = s := by
  unfold deliverOrder
  split
  · rfl
  · rw [if_neg (show frameDest f ≠ broadcast from hd), hv]

theorem deliverOrder_valve {orig : Originator} {f : Frame} {p : Nat} {part : ValvePart} (hm : s.mgmt.mode ≠ .transparent)
    (hd : frameDest f ≠ 127) (hv : valveOfNode s.map (frameDest f) = some p) (hp : valvePart s.map p = some part) :
    deliverOrder orig f s = s.updValve p (fun v => v.afterDelivery part.travel (orderAction f) orig) := by
  unfold deliverOrder
  rw [if_neg hm, if_neg (show frameDest f ≠ broadcast from hd), hv]
  dsimp only
  rw [State.travelLimit_eq hp]

theorem deliverOrder_broadcast {orig : Originator} {f : Frame} (hm : s.mgmt.mode ≠ .transparent) (hd : frameDest f = 127) :
    deliverOrder orig f s = s.setValves
      (s.interlock.valves.map (fun v => v.afterDelivery (s.travelLimit v.point) (orderAction f) orig)) := by
  unfold deliverOrder
  rw [if_neg hm, if_pos (show frameDest f = broadcast from hd)]

theorem ValveRec.afterDelivery_state (travel action : Nat) (orig : Originator) (v : ValveRec) :
    (v.afterDelivery travel action orig).state = v.state := by rw [ValveRec.afterDelivery_eq]

/-- Records changed each by itself, their points kept, are found as they were. -/
theorem State.valve_setValves_map {f : ValveRec → ValveRec} (hf : ∀ v, (f v).point = v.point) (q : Nat) :
    (s.setValves (s.interlock.valves.map f)).valve q = (s.valve q).map f := by
  unfold State.valve
  rw [State.setValves_interlock]
  show (s.interlock.valves.map f).find? _ = _
  rw [List.find?_map]
  exact congrArg (Option.map f) (congrArg (List.find? · s.interlock.valves) (funext fun v => by simp only [Function.comp, hf]))

theorem State.believed_updValve {p q : Nat} {f : ValveRec → ValveRec} {st : ValveState} (hp : ∀ v, (f v).point = v.point)
    (hs : ∀ v, (f v).state = v.state) : (s.updValve p f).believed q st = s.believed q st := by
  unfold State.believed
  rw [State.valve_updValve _ _ _ _ hp]
  by_cases hq : q = p
  · rw [if_pos hq]
    cases s.valve q with
    | none => rfl
    | some v => exact congrArg (· == st) (hs v)
  · rw [if_neg hq]

/-! ### The delivery of a slot's order (R136) -/

theorem slotDelivered_other (h : ¬ ((s.slot k).state = .running ∧ (s.slot k).order = .queued)) : slotDelivered k s = s := if_neg h

/-- The current step's own order is delivered. -/
theorem slotDelivered_own (hs : (s.slot k).state = .running) (ho : (s.slot k).order = .queued) (hi : (s.slot k).step = some i) :
    slotDelivered k s =
      let t := s.setSlot k { s.slot k with order := .delivered }
      if t.stepValveIn k Action.target then startStep k (i + 1) t else t := by
  have step : ((s.setSlot k { s.slot k with order := .delivered }).slot k).step = some i := by
    rw [State.slot_setSlot_same]
    exact hi
  unfold slotDelivered
  rw [if_pos ⟨hs, ho⟩]
  dsimp only [State.updSlot]
  rw [completeStep_eq step]

/-- When an OPEN or CLOSE step has reached its target. -/
theorem State.stepValveIn_target {o : StepRec} (hi : (s.slot k).step = some i) (ho : s.stepAt i = some o) :
    s.stepValveIn k Action.target = true ↔ ∃ q, o.operand = some q ∧
      ((o.action = .openValve ∧ s.believed q .opened = true) ∨ (o.action = .closeValve ∧ s.believed q .closed = true)) := by
  unfold State.stepValveIn
  rw [(State.currentStep_eq hi).trans ho]
  dsimp only
  cases ha : o.action <;> cases hq : o.operand <;> simp [Action.target]

/-- Settles O21. -/
theorem deliveredOrderIsExpected : Obligations.DeliveredOrderIsExpected := by
  intro t s h settled follows full action expects left
  obtain ⟨hp, ht, ha⟩ := State.holds_spec h
  have effect (orig : Originator) (travel : Nat) :
      (fun v => ValveRec.afterDelivery travel (orderAction t.frame) orig v) = (fun v => expects orig v travel) :=
    funext fun v => ValveRec.afterDelivery_eq _ _ _ v
  have row : exec (.linkReply .b .accept) s = .next (settleInput (deliver .b t s)) :=
    live_next hp (takeReply_awaiting ht ha .accept)
  have kept {u : State} (hd : deliver .b t s = u) (hu : u.mgmt.service = s.mgmt.service) :
      exec (.linkReply .b .accept) s = .next u := by
    rw [row, hd, settleInput_keeps settled hu]
  refine ⟨fun hs => ?down, fun k p part hs hm hd hv hpart => ?slot⟩
  case down =>
    have delivers : deliver .b t s = deliverOrder .control t.frame left := by
      unfold deliver
      rw [hs]
      exact if_pos full
    refine ⟨fun h => kept (delivers.trans ?_) rfl, fun hm hd => ⟨_, kept (delivers.trans (deliverOrder_broadcast hm hd)) rfl,
      rfl, fun q part hq => ?_, ?_⟩, fun p part hm hd hv hpart => kept (delivers.trans ?_) rfl⟩
    · obtain hm | ⟨hd, hv⟩ := h
      · exact deliverOrder_transparent hm
      · exact deliverOrder_unmapped hd hv
    · rw [State.valve_setValves_map fun v => ValveRec.afterDelivery_point ..]
      show Option.map _ (s.valve q) = _
      cases hv : s.valve q with
      | none => rfl
      | some v =>
        have limit : left.travelLimit v.point = part.travel := State.travelLimit_eq ((s.valve_mem hv).2 ▸ hq)
        rw [Option.map_some, limit]
        exact congrArg some (ValveRec.afterDelivery_eq ..)
    · show (s.interlock.valves.map _).map _ = _
      rw [List.map_map]
      exact List.map_congr_left fun v _ => ValveRec.afterDelivery_point ..
    · rw [deliverOrder_valve (s := left) hm hd hv hpart, effect]
  case slot =>
    intro base delivered reached
    have delivers : deliver .b t s = placeAwaiting k (slotDelivered k base) := by
      unfold deliver
      rw [hs]
      show placeAwaiting k (slotDelivered k (deliverOrder (.slot k) t.frame ((s.frees .b).setOrder k none))) = _
      rw [deliverOrder_valve (s := (s.frees .b).setOrder k none) hm hd hv hpart, effect]
    have service : (placeAwaiting k (slotDelivered k base)).mgmt.service = s.mgmt.service :=
      (placeAwaiting_sequenced _ k).service.trans (slotDelivered_sequenced base k).service
    refine ⟨fun hn => (kept delivers service).trans ?_, fun i o hr hq hi ho => ?_⟩
    · rw [slotDelivered_other (s := base) hn]
      exact (exec_slotOrderPlaced (s := base) hp k).symm
    · have slot : delivered.slot k = { s.slot k with order := .delivered } := State.slot_setSlot_same _ _ _
      have target : delivered.stepValveIn k Action.target = true ↔ reached o := by
        rw [State.stepValveIn_target (s := delivered) (by rw [slot]; exact hi) ho]
        have same (q : Nat) (st : ValveState) : delivered.believed q st = s.believed q st :=
          State.believed_updValve (s := (s.frees .b).setOrder k none) (fun _ => rfl) (fun _ => rfl)
        simp only [same]
        rfl
      have own : slotDelivered k base = if delivered.stepValveIn k Action.target then startStep k (i + 1) delivered else delivered :=
        slotDelivered_own (s := base) hr hq hi
      have placed : delivered.Placed k := State.placed_of_order (congrArg Slot.order slot) nofun
      rw [own] at delivers service
      refine ⟨fun hn => ?_, fun hn => ?_⟩
      · rw [if_neg (fun e => hn (target.1 e)), placeAwaiting_of_placed placed] at delivers
        exact kept delivers rfl
      · rw [if_pos (target.2 hn), placeAwaiting_of_placed (startStep_placed _ placed)] at delivers
        exact kept delivers (startStep_sequenced _ _ _).service

end Sys2Proof.Machine
end

section
/-! PROOF. The requests that read records and the log (O50, O51). -/

namespace Sys2Proof.Machine

variable {s : State} {q : Request} {args : List Byte}

theorem flagOfCode_outside {n : Nat} (h : 1 < n) : flagOfCode n = none := by
  unfold flagOfCode
  split
  · omega
  · omega
  · rfl

theorem flagOfCode_inside {n : Nat} (h : n ≤ 1) : flagOfCode n = some (decide (n = 1)) := by
  obtain rfl | rfl : n = 0 ∨ n = 1 := by omega
  · rfl
  · rfl

/-! ### READ RUN (R35) -/

theorem serveReadRun_outside (h : 1 < byteAt args 0) : serveReadRun args s = refuse stOutOfRange s := by
  unfold serveReadRun
  split
  · omega
  · omega
  · rfl

theorem serveReadRun_place (h : byteAt args 0 = 0) : serveReadRun args s =
    if 15 < byteAt args 1 then refuse stOutOfRange s
    else (s.tracker.runs[byteAt args 1]?).elim (refuse stNotFound s) (fun r => served (runData s (byteAt args 1) r) s) := by
  unfold serveReadRun
  simp only [h]
  cases s.tracker.runs[byteAt args 1]? <;> rfl

theorem serveReadRun_id (h : byteAt args 0 = 1) : serveReadRun args s =
    (s.run (byteAt args 1)).elim (refuse stNotFound s)
      (fun r => served (runData s (placeOf s.tracker.runs (byteAt args 1)) r) s) := by
  unfold serveReadRun
  simp only [h]
  cases s.run (byteAt args 1) <;> rfl

theorem State.run_none {id : Nat} (h : ∀ y ∈ s.tracker.runs, y.id ≠ id) : s.run id = none :=
  List.find?_eq_none.2 fun y hy => by simpa using h y hy

/-- The first record with a key and its place. -/
theorem find?_first {α : Type} {key : α → Nat} {xs : List α} {j : Nat} {a : α} (ha : xs[j]? = some a)
    (hf : ∀ i b, i < j → xs[i]? = some b → key b ≠ key a) :
    xs.find? (fun b => key b == key a) = some a ∧ xs.findIdx (fun b => key b == key a) = j := by
  induction xs generalizing j with
  | nil => simp at ha
  | cons b bs ih =>
    cases j with
    | zero =>
      obtain rfl : b = a := by simpa using ha
      simp [List.findIdx_cons]
    | succ j =>
      have first : (key b == key a) = false := beq_eq_false_iff_ne.2 (hf 0 b (by omega) rfl)
      obtain ⟨found, place⟩ := ih (j := j) (by simpa using ha) fun i c hi hc => hf (i + 1) c (by omega) (by simpa using hc)
      rw [List.find?_cons, first, List.findIdx_cons, first]
      exact ⟨found, by rw [place]; rfl⟩

theorem find?_key_split {α : Type} {key : α → Nat} {before after : List α} {a : α} (h : ∀ b ∈ before, key b ≠ key a) :
    (before ++ a :: after).find? (fun b => key b == key a) = some a ∧
      (before ++ a :: after).findIdx (fun b => key b == key a) = before.length := by
  refine find?_first (by simp) fun i b hi hb => h b ?_
  rw [List.getElem?_append_left hi] at hb
  exact List.mem_of_getElem? hb

/-- The arrival estimate of R46, written out. -/
theorem arrivalEstimate_eq (m : List Point) (r : Run) : arrivalEstimate m r =
    match r.nextDet with
    | some d =>
      if r.state ≠ .lost ∧ 0 < r.speed ∧ r.position < chainMm m d then
        (chainMm m d - r.position + (r.speed - 1)) / r.speed
      else 4294967295
    | none => 4294967295 := by
  unfold arrivalEstimate
  cases r.nextDet with
  | none => rfl
  | some d =>
    dsimp only
    split
    · next h => rw [Nat.add_sub_assoc (show 1 ≤ r.speed from h.2.1)]
    · rfl

theorem slotNumber_eq (b : Option SlotId) : slotNumber b = b.elim 255 Fin.val := by cases b <;> rfl

theorem Origin.code_eq (o : Origin) : o.code = (match o with | .launched j => j.val | .adopted => 4) := by cases o <;> rfl

theorem Byte.toNat_zero : (0#8 : Byte).toNat = 0 := rfl

/-! ### READ SLOT, READ VALVE, READ NODE, READ FLOW -/

theorem chainData_eq (c : Option Chain) : chainData c = (match c with
    | some c => [1#8, byte c.cls, byte c.mode.code, byte c.base] ++ put16 c.spacing
    | none => [0#8, 0#8, 0#8, 0#8, 0#8, 0#8]) := by cases c <;> rfl

/-- The data of READ SLOT, written out. -/
theorem slotData_eq {k : SlotId} {b0 b1 : Byte} (h : programData s k = [b0, b1]) : slotData s k =
    [byte k.val, byte (s.slot k).state.code, byte ((s.slot k).program.getD 255), byte (s.slot k).cls, byte (s.slot k).mode.code,
      byte (s.slot k).base, byte (s.slot k).count] ++
      put16 (s.slot k).spacing ++ [flagByte (s.slot k).autoRepeat] ++
      (match (s.slot k).chain with
        | some c => [1#8, byte c.cls, byte c.mode.code, byte c.base] ++ put16 c.spacing
        | none => [0#8, 0#8, 0#8, 0#8, 0#8, 0#8]) ++
      [flagByte (s.slot k).permit, flagByte (s.slot k).endRequested, byte ((s.slot k).step.getD 255)] ++
      put16 (s.slot k).countdown ++
      [byte (s.slot k).order.code, byte ((s.slot k).bound.getD 0)] ++ pointSetBytes (s.slot k).reserved ++
      [byte ((s.slot k).cause.elim 0 Cause.code), b0, b1] := by
  unfold slotData
  dsimp only
  rw [h, chainData_eq]
  simp only [List.append_assoc, List.cons_append, List.nil_append]
  rfl

/-- READ SLOT of a slot. -/
theorem readSlot_serves {k : SlotId} (h : s.serving q 38 [byte k.val] = true) :
    exec .readSlot s = .next ((if (s.slot k).program.elim false (fun n => (s.programAt n).isNone) then s.usedFree else s).answered
      q 38 0 (slotData s k)) := by
  refine slotRow_takes (takes := fun _ => true)
    (body := fun k s => served (slotData s k) (if (s.slot k).program.elim false (fun n => (s.programAt n).isNone) then s.usedFree else s))
    rfl h (by decide) rfl rfl ?_
  split <;> rfl

/-- The data of READ VALVE, written out. -/
theorem valveData_eq (v : ValveRec) (part : ValvePart) : valveData v part =
    [byte v.point, byte v.state.code, byte v.percent, byte v.location.code, byte v.lastTag, flagByte v.suspect] ++
      (match v.expected with
        | some e => [1#8, byte e.target.code] ++ put16 e.remaining ++
            [match e.originator with | .control => 4#8 | .slot j => byte j.val]
        | none => [0#8, 0#8, 0#8, 0#8, 255#8]) ++
      [byte (v.reserving.elim 255 Fin.val), byte part.role.code] ++ put16 part.travel := by
  rw [← slotNumber_eq]
  unfold valveData
  cases v.expected with
  | none => rfl
  | some e => cases h : e.originator <;> simp [expectedData, h]

/-- The data of READ RUN, written out. -/
theorem runData_eq (place : Nat) (x : Run) : runData s place x =
    [byte place, byte x.id, byte x.cls, byte x.state.code] ++ put32 x.position ++ put16 x.speed ++ put16 x.slip ++
      put32 x.band ++ put32 x.flowDist ++ [byte x.lastFix, byte (x.nextDet.getD 255), byte x.misses] ++
      put16 x.halted ++ [byte (x.zoneValve.getD 255)] ++ put16 x.current.toNat ++ put16 x.accrued.toNat ++
      put16 x.alarmed.toNat ++ [byte x.origin.code, byte (x.bound.elim 255 Fin.val)] ++
      put32 x.insertedAt.toNat ++ put32 (arrivalEstimate s.map x) := by
  rw [← slotNumber_eq]
  rfl

/-- READ RUN, as the obligation asks for it. -/
theorem readRun_reads (h : s.serving q 20 args = true) (hl : args.length = 2) :
    (∀ status, serveReadRun args s = refuse status s → exec .readRun s = .next (s.answered q 20 status [])) ∧
      ∀ data, serveReadRun args s = served data s → exec .readRun s = .next (s.answered q 20 0 data) :=
  have len : hasLength 2 args = true := beq_iff_eq.2 hl
  ⟨fun _ hb => request_refused h (by decide) len hb, fun _ hb => request_served h (by decide) len hb⟩

/-- Settles O50. -/
theorem recordsAreRead : Obligations.RecordsAreRead := by
  refine ⟨fun q sel n s h => ?run, fun q k s h => ?slot, fun q k s h hk => ?noSlot, fun q p s h => ?valve, fun q n s h => ?node,
    fun q p s h => ?flow⟩
  case run =>
    obtain ⟨refuses, serves⟩ := readRun_reads h rfl
    intro refused
    refine ⟨fun hr => refuses 4 ?_, fun hs hn hp => refuses 11 ?_, fun hs hn => refuses 11 ?_, fun place x hx hsel => ?_⟩
    · obtain h | ⟨rfl, hn⟩ := hr
      · exact serveReadRun_outside h
      · exact (serveReadRun_place rfl).trans (if_pos hn)
    · subst hs
      have absent : s.tracker.runs[n.toNat]? = none := List.getElem?_eq_none hp
      exact (serveReadRun_place rfl).trans ((if_neg (not_lt.2 hn)).trans (by rw [show byteAt [0, n] 1 = n.toNat from rfl, absent]; rfl))
    · subst hs
      exact (serveReadRun_id rfl).trans (by rw [show byteAt [1, n] 1 = n.toNat from rfl, State.run_none hn]; rfl)
    · intro estimate
      have data : serveReadRun [sel, n] s = served (runData s place x) s := by
        obtain ⟨rfl, rfl, hp⟩ | ⟨rfl, hid, first⟩ := hsel
        · exact (serveReadRun_place rfl).trans ((if_neg (not_lt.2 hp)).trans (by rw [show byteAt [0, n] 1 = n.toNat from rfl, hx]; rfl))
        · obtain ⟨found, at_⟩ := find?_first hx first
          refine (serveReadRun_id rfl).trans ?_
          rw [show byteAt [1, n] 1 = x.id from hid.symm, show s.run x.id = some x from found,
            show placeOf s.tracker.runs x.id = place from at_]
          rfl
      rw [runData_eq, arrivalEstimate_eq, Origin.code_eq] at data
      exact serves _ data
  case noSlot => exact (slotRow_refuses (body := fun k s => served (slotData s k) _) rfl h (by decide)).1 hk
  case slot =>
    intro x
    cases hx : x.program with
    | none =>
      have data : programData s k = [0#8, 0#8] := by unfold programData; rw [show (s.slot k).program = none from hx]
      have reads := readSlot_serves h
      rw [slotData_eq data, show (s.slot k).program = none from hx] at reads
      exact ⟨0#8, 0#8, s, reads, rfl, fun _ => ⟨rfl, rfl, rfl⟩, nofun⟩
    | some n =>
      have program : (s.slot k).program = some n := hx
      cases hp : s.programAt n with
      | none =>
        have data : programData s k = [Config.freeByte s.fresh, Config.freeByte (s.fresh + 1)] := by
          unfold programData; rw [program]; dsimp only; rw [hp]
        have reads := readSlot_serves h
        rw [slotData_eq data, program, Option.elim_some, hp] at reads
        exact ⟨_, _, s.usedFree, reads, rfl, nofun, fun m p hm hq => by cases hm; rw [hp] at hq; cases hq⟩
      | some p =>
        have data : programData s k = [byte p.kind.code, byte p.trap] := by
          unfold programData; rw [program]; dsimp only; rw [hp]
        have reads := readSlot_serves h
        rw [slotData_eq data, program, Option.elim_some, hp] at reads
        refine ⟨_, _, s, reads, rfl, nofun, fun m p' hm hq => ?_⟩
        cases hm
        rw [hp] at hq
        cases hq
        exact ⟨rfl, rfl, rfl⟩
  case valve =>
    refine ⟨fun hp => ?_, fun hp hv => ?_, fun v part hp hv hpart => ?_⟩
    · exact request_refused h (by decide) rfl (if_pos hp)
    · refine request_refused (status := 11) h (by decide) rfl ((if_neg (not_lt.2 hp)).trans ?_)
      rw [show s.valve (byteAt [p] 0) = none from hv]
      rfl
    · have reads : exec .readValve s = .next (s.answered q 40 0 (valveData v part)) := by
        refine request_served h (by decide) rfl ((if_neg (not_lt.2 hp)).trans ?_)
        rw [show s.valve (byteAt [p] 0) = some v from hv, show valvePart s.map (byteAt [p] 0) = some part from hpart]
      rw [valveData_eq, (s.valve_mem hv).2, byte_of_toNat] at reads
      exact reads
  case node =>
    have inside (h0 : n ≠ 0) (hn : n.toNat ≤ 126) : ¬ (byteAt [n] 0 = 0 ∨ 126 < byteAt [n] 0) := by
      rintro (e | e)
      · exact h0 (BitVec.eq_of_toNat_eq e)
      · exact absurd hn (not_le.2 e)
    refine ⟨fun hn => ?_, fun h0 hn hx => ?_, fun before x after h0 hn hs hx first => ?_⟩
    · refine request_refused h (by decide) rfl (if_pos ?_)
      exact hn.imp_left fun e => by rw [e]; rfl
    · refine request_refused (status := 11) h (by decide) rfl ((if_neg (inside h0 hn)).trans ?_)
      have absent : s.node n.toNat = none := List.find?_eq_none.2 fun y hy => by simpa using hx y hy
      rw [show s.node (byteAt [n] 0) = none from absent]
      rfl
    · obtain ⟨found, place⟩ := find?_key_split (key := NodeRec.node) (before := before) (a := x) (after := after) fun y hy => by rw [hx]; exact first y hy
      rw [← hs, hx] at found place
      have reads : exec .readNode s = .next (s.answered q 41 0 (nodeData s x)) := by
        refine request_served h (by decide) rfl ((if_neg (inside h0 hn)).trans ?_)
        rw [show s.node (byteAt [n] 0) = some x from found]
      unfold nodeData at reads
      rw [hx, place, byte_of_toNat] at reads
      exact reads
  case flow =>
    refine ⟨fun hp => ?_, fun hp hf => ?_, fun f hold hp hf hh => ?_⟩
    · exact request_refused h (by decide) rfl (if_pos hp)
    · refine request_refused (status := 11) h (by decide) rfl ((if_neg (not_lt.2 hp)).trans ?_)
      rw [show s.flow (byteAt [p] 0) = none from hf]
      rfl
    · have reads : exec .readFlow s = .next (s.answered q 42 0 (flowData f hold)) := by
        refine request_served h (by decide) rfl ((if_neg (not_lt.2 hp)).trans ?_)
        rw [show s.flow (byteAt [p] 0) = some f from hf, show meterHold s.map (byteAt [p] 0) = some hold from hh]
      unfold flowData at reads
      rw [(find?_key (key := FlowRec.point) hf).1, byte_of_toNat] at reads
      exact reads

/-! ### The log -/

theorem serveReadLog_view {v : CircleView} (hc : byteAt args 0 ≤ 2) (hn : byteAt args 2 ≤ 3)
    (hv : s.log.view s.mgmt.config.logMode (byteAt args 0) = some v) : serveReadLog args s =
      served (logData s.mgmt.config.logMode s.log v (s.log.recordsFrom v (byteAt args 1) (byteAt args 2 + 1))) s := by
  unfold serveReadLog
  rw [if_neg (by omega), hv]

theorem serveReadLog_noCircle (hc : byteAt args 0 ≤ 2) (hn : byteAt args 2 ≤ 3)
    (hv : s.log.view s.mgmt.config.logMode (byteAt args 0) = none) : serveReadLog args s = refuse stWrongMode s := by
  unfold serveReadLog
  rw [if_neg (by omega), hv]

theorem EventLog.recordsFrom_empty (g : EventLog) (base cap start n : Nat) :
    g.recordsFrom { circle := ⟨0, 0⟩, base := base, cap := cap } start n = [] := by
  unfold EventLog.recordsFrom
  simp

/-- Settles O51. -/
theorem logIsReadAndResumed : Obligations.LogIsReadAndResumed := by
  refine ⟨fun q c start n s h => ?read, fun q a s h => ⟨fun ha => ?_, fun ha => ?_, fun ha => ?_⟩⟩
  case read =>
    intro refused mode answers
    refine ⟨fun hr => request_refused h (by decide) rfl (if_pos hr), fun hc hn => ?_⟩
    have reads {circle : Machine.Circle} {base cap : Nat} (hv : s.log.view mode c.toNat = some ⟨circle, base, cap⟩) :
        answers circle base cap := request_served h (by decide) rfl (serveReadLog_view (args := [c, start, n]) hc hn hv)
    have none_ (hv : s.log.view mode c.toNat = none) : refused 5 :=
      request_refused h (by decide) rfl (serveReadLog_noCircle (args := [c, start, n]) hc hn hv)
    refine ⟨fun hm => ⟨fun e => reads ?_, fun e => reads ?_, fun e => none_ ?_⟩, fun hm => ⟨fun e => reads ?_, fun e => none_ ?_⟩,
      fun hm => ?_⟩
    · rw [hm, e]; rfl
    · rw [hm, e]; rfl
    · rw [hm, e]; rfl
    · obtain hm | hm := hm <;> rw [hm, e] <;> rfl
    · have below : c.toNat = 0 ∨ c.toNat = 1 := by
        have : c.toNat ≠ 2 := fun e' => e (BitVec.eq_of_toNat_eq e')
        omega
      obtain hm | hm := hm <;> obtain e | e := below <;> rw [hm, e] <;> rfl
    · have empty := serveReadLog_view (s := s) (args := [c, start, n]) (v := ⟨⟨0, 0⟩, 0, 256⟩) hc hn
        (by rw [show s.mgmt.config.logMode = .off from hm]; rfl)
      rw [EventLog.recordsFrom_empty, show s.mgmt.config.logMode = .off from hm] at empty
      exact request_served h (by decide) rfl empty
  · refine request_refused h (by decide) rfl ?_
    unfold serveLogResume
    rw [flagOfCode_outside (show 1 < byteAt [a] 0 from ha)]
    rfl
  · subst ha
    exact request_answers h (by decide) rfl rfl rfl
  · subst ha
    exact request_answers h (by decide) rfl rfl rfl

end Sys2Proof.Machine
end

section
/-! PROOF. READ STATUS, SET CONFIG and RESTART (O41); COMMIT and READ TABLE RECORD (O46). -/

namespace Sys2Proof.Machine

variable {s : State} {q : Request} {args : List Byte}

/-! ### READ STATUS (R178) -/

theorem State.mapInUse_eq : s.mapInUse = decide (s.map ≠ []) := by
  unfold State.mapInUse
  cases s.map <;> rfl

/-! ### SET CONFIG (R179) -/

/-- A two-byte value. -/
def word (hi lo : Byte) : Nat := hi.toNat * 256 + lo.toNat

theorem put16_word (hi lo : Byte) : put16 (word hi lo) = [hi, lo] := by
  have h := hi.isLt
  have l := lo.isLt
  unfold put16 word
  rw [byte_eq_of_mod (x := hi) (by omega), byte_eq_of_mod (x := lo) (by omega)]

theorem serveSetConfig_eq (item hi lo : Byte) : serveSetConfig [item, hi, lo] s =
    match s.mgmt.config.set item.toNat (word hi lo) with
    | none => refuse stOutOfRange s
    | some c => served [item, hi, lo] (s.setConfig c) := by
  unfold serveSetConfig
  rw [show byteAt [item, hi, lo] 0 = item.toNat from rfl, show be16 [item, hi, lo] 1 = word hi lo from rfl, put16_word,
    byte_of_toNat] <;> rfl

theorem State.setConfig_sameMode {c : Config} (h : c.logMode = s.mgmt.config.logMode) :
    s.setConfig c = { s with mgmt := { s.mgmt with config := c } } := by
  unfold State.setConfig
  rw [if_pos h]

theorem LogMode.ofCode_code (m : LogMode) : LogMode.ofCode m.code = some m := by cases m <;> rfl

theorem LogMode.ofCode_outside {n : Nat} (h : 3 < n) : LogMode.ofCode n = none := by
  unfold LogMode.ofCode
  split <;> first | omega | rfl

theorem Config.set_unknown {c : Config} {item : Nat} (v : Nat) (h : item = 0 ∨ 10 < item) : c.set item v = none := by
  unfold Config.set
  split
  all_goals first | omega | rfl

/-- Settles O41. -/
theorem statusConfigurationAndRestart : Obligations.StatusConfigurationAndRestart := by
  refine ⟨fun q s h => ?status, fun q item hi lo s h => ?config, fun q s h => ?restart⟩
  case status =>
    refine request_served (body := serveReadStatus) h (by decide) rfl ?_
    unfold serveReadStatus statusData
    rw [State.mapInUse_eq]
    rfl
  case config =>
    intro v takes refused
    have sets {cfg : Config} (hc : s.mgmt.config.set item.toNat v = some cfg) :
        exec .setConfig s = .next ((s.setConfig cfg).answered q 3 0 [item, hi, lo]) := by
      refine request_answers (body := serveSetConfig) h (by decide) rfl ((serveSetConfig_eq item hi lo).trans ?_) rfl
      rw [show word hi lo = v from rfl, hc]
      rfl
    have given {cfg : Config} (hc : s.mgmt.config.set item.toNat v = some cfg) (hm : cfg.logMode = s.mgmt.config.logMode) :
        takes cfg := (sets hc).trans (by rw [State.setConfig_sameMode hm])
    have refuses (hc : s.mgmt.config.set item.toNat v = none) : refused := by
      refine request_refused (body := serveSetConfig) h (by decide) rfl ((serveSetConfig_eq item hi lo).trans ?_)
      rw [show word hi lo = v from rfl, hc]
      rfl
    have flagged {f : Bool → Config} (hv : v ≤ 1) (hf : s.mgmt.config.set item.toNat v = (flagOfCode v).map f)
        (hm : ∀ b, (f b).logMode = s.mgmt.config.logMode) : takes (f (decide (v = 1))) :=
      given (hf.trans (by rw [flagOfCode_inside hv]; rfl)) (hm _)
    refine ⟨fun e hv => ?_, fun e hv => ?_, fun e hv => ?_, fun e hv => ?_, fun e hv => ?_, fun e hv => ?_, fun e hv => ?_,
      fun e h5 h600 => ?_, fun m e hv => ⟨fun hm => ?_, fun hm => ?_⟩, fun e hv => ?_, fun e => ?_, fun e hv => ?_, fun e hv => ?_,
      fun e hv => ?_, fun e hv => ?_, fun e hv => ?_, fun e hv => ?_⟩
    · subst e; exact given (if_pos hv) rfl
    · subst e; exact given (if_pos hv) rfl
    · subst e; exact given (if_pos hv) rfl
    · subst e; exact given (if_pos hv) rfl
    · subst e; exact flagged hv rfl fun _ => rfl
    · subst e; exact flagged hv rfl fun _ => rfl
    · subst e; exact flagged hv rfl fun _ => rfl
    · subst e; exact given (if_pos ⟨h5, h600⟩) rfl
    · subst e
      have kept : ({ s.mgmt.config with logMode := m } : Config) = s.mgmt.config := by rw [hm]
      have same : takes s.mgmt.config := given (by
        show (LogMode.ofCode v).map _ = _
        rw [hv, LogMode.ofCode_code, Option.map_some, kept]) rfl
      exact same
    · subst e
      have mode : s.mgmt.config.set 9 v = some { s.mgmt.config with logMode := m } := by
        show (LogMode.ofCode v).map _ = _
        rw [hv, LogMode.ofCode_code]
        rfl
      refine (sets mode).trans ?_
      unfold State.setConfig
      rw [if_neg hm]
      rfl
    · subst e; exact flagged hv rfl fun _ => rfl
    · exact refuses (Config.set_unknown v (e.imp_left fun e => by rw [e]; rfl))
    · obtain rfl | rfl := e <;> exact refuses (if_neg (not_le.2 hv))
    · subst e; exact refuses (if_neg (not_le.2 hv))
    · subst e; exact refuses (if_neg (not_le.2 hv))
    · have unflagged {f : Bool → Config} (hf : s.mgmt.config.set item.toNat v = (flagOfCode v).map f) : refused :=
        refuses (hf.trans (by rw [flagOfCode_outside hv]; rfl))
      obtain rfl | rfl | rfl | rfl := e <;> exact unflagged rfl
    · subst e; exact refuses (if_neg (by omega))
    · subst e
      refine refuses ?_
      show (LogMode.ofCode v).map _ = _
      rw [LogMode.ofCode_outside hv]
      rfl
  case restart =>
    obtain ⟨hp, hs, hpay, hf, hw⟩ := State.serving_spec h
    refine live_next hp ?_
    unfold serveRestart
    rw [hs]
    dsimp only
    rw [if_pos ⟨Request.code_of_payload hpay (by decide), hf⟩, if_pos (Request.args_of_payload hpay)]
    unfold answerRequest
    rw [Request.code_of_payload hpay (by decide)]
    rfl

/-! ### COMMIT (R14) -/

theorem flagByte_inside {b : Byte} (h : b.toNat ≤ 1) : flagByte (decide (b = 1)) = b := by
  obtain h | h : b.toNat = 0 ∨ b.toNat = 1 := by omega
  · obtain rfl : b = 0 := BitVec.eq_of_toNat_eq h
    rfl
  · obtain rfl : b = 1 := BitVec.eq_of_toNat_eq h
    rfl

theorem State.slotActive_iff : s.slotActive = false ↔ ∀ k, (s.slot k).state = .idle := by
  refine ⟨State.slotActive_eq_false, fun free => List.any_eq_false.2 fun k _ => ?_⟩
  simp [free k]

theorem State.commitRefusal_pending {t : TableId} (h : s.tables.pendingCommit = some t) : s.commitRefusal t = some stPending :=
  if_pos h

theorem State.commitRefusal_lineMap (h : s.tables.pendingCommit ≠ some .lineMap) : s.commitRefusal .lineMap =
    if s.tracker.runs ≠ [] then some stRunsActive else if s.slotActive then some stSlotActive else none := if_neg h

theorem State.commitRefusal_classes (h : s.tables.pendingCommit ≠ some .classes) : s.commitRefusal .classes = none := if_neg h

theorem State.commitRefusal_sequence (h : s.tables.pendingCommit ≠ some .sequence) :
    s.commitRefusal .sequence = if s.slotActive then some stSlotActive else none := if_neg h

section Commit
variable {t : Byte} (h : s.serving q 15 [t] = true)
include h

/-- COMMIT in service with a free place and its one argument is examined. -/
theorem exec_commit : exec .commit s = .next (examineCommit q s) := by
  obtain ⟨hp, hs, hpay, hf, -⟩ := State.serving_spec h
  refine live_next hp ?_
  unfold serveCommit
  rw [hs]
  dsimp only
  rw [if_pos ⟨Request.code_of_payload hpay (by decide), hf⟩, if_pos (Request.args_of_payload hpay ▸ rfl)]

theorem exec_commit_unknown (ht : 2 < t.toNat) : exec .commit s = .next (s.answered q 15 4 []) := by
  obtain ⟨-, -, hpay, -, hw⟩ := State.serving_spec h
  rw [exec_commit h]
  unfold examineCommit
  rw [Request.args_of_payload hpay, show byteAt [t] 0 = t.toNat from rfl, TableId.ofCode_eq_none ht]
  show Host.Outcome.next (answerAndLeave q 4 [] s) = _
  rw [answerAndLeave_eq q _ _ hw, Request.code_of_payload hpay (by decide)]
  rfl

theorem exec_commit_refused {id : TableId} (ht : t.toNat = id.code) {status : Nat} (hr : s.commitRefusal id = some status) :
    exec .commit s = .next (s.answered q 15 status []) := by
  obtain ⟨-, -, hpay, -, hw⟩ := State.serving_spec h
  rw [exec_commit h]
  unfold examineCommit
  rw [Request.args_of_payload hpay, show byteAt [t] 0 = t.toNat from rfl, ht, TableId.ofCode_code]
  dsimp only
  rw [hr]
  show Host.Outcome.next (answerAndLeave q status [] s) = _
  rw [answerAndLeave_eq q _ _ hw, Request.code_of_payload hpay (by decide)]
  rfl

theorem exec_commit_taken {id : TableId} (ht : t.toNat = id.code) (hr : s.commitRefusal id = none) :
    exec .commit s = .next (takeCommit q id s) := by
  obtain ⟨-, -, hpay, -, -⟩ := State.serving_spec h
  rw [exec_commit h]
  unfold examineCommit
  rw [Request.args_of_payload hpay, show byteAt [t] 0 = t.toNat from rfl, ht, TableId.ofCode_code]
  dsimp only
  rw [hr]

end Commit

/-! ### READ TABLE RECORD (R13) -/

theorem recordLimit_unknown {n : Nat} (h : 4 < n) : recordLimit n = none := by
  unfold recordLimit
  split
  iterate 5 omega
  rfl

theorem serveReadTableRecord_unknown (h : 4 < byteAt args 0) : serveReadTableRecord args s = refuse stOutOfRange s := by
  unfold serveReadTableRecord
  dsimp only
  rw [recordLimit_unknown h]

theorem serveReadTableRecord_noCopy (h : 1 < byteAt args 2) : serveReadTableRecord args s = refuse stOutOfRange s := by
  unfold serveReadTableRecord
  dsimp only
  rw [flagOfCode_outside h]
  cases recordLimit (byteAt args 0) <;> rfl

theorem serveReadTableRecord_outside {limit : Nat} (hl : recordLimit (byteAt args 0) = some limit) (h : limit < byteAt args 1) :
    serveReadTableRecord args s = refuse stOutOfRange s := by
  unfold serveReadTableRecord
  dsimp only
  rw [hl]
  cases flagOfCode (byteAt args 2) with
  | none => rfl
  | some b => exact if_pos h

theorem serveReadTableRecord_inside {code i copy : Byte} {limit : Nat} (hl : recordLimit code.toNat = some limit)
    (hi : i.toNat ≤ limit) (hc : copy.toNat ≤ 1) : serveReadTableRecord [code, i, copy] s =
      (readRecord code.toNat i.toNat s (decide (copy = 1))).elim (refuse stNotFound s) fun record =>
        served ([code, i, copy] ++ readCounts code.toNat s (decide (copy = 1)) ++ record) s := by
  have shadow : flagOfCode copy.toNat = some (decide (copy = 1)) := by
    rw [flagOfCode_inside hc]
    exact congrArg some (decide_eq_decide.2 (byte_eq_iff (by decide)).symm)
  unfold serveReadTableRecord
  rw [show byteAt [code, i, copy] 0 = code.toNat from rfl, show byteAt [code, i, copy] 1 = i.toNat from rfl,
    show byteAt [code, i, copy] 2 = copy.toNat from rfl]
  dsimp only
  rw [hl, shadow]
  dsimp only
  rw [if_neg (not_lt.2 hi), flagByte_inside hc, byte_of_toNat, byte_of_toNat]
  cases readRecord code.toNat i.toNat s (decide (copy = 1)) <;> rfl

/-- Settles O46. A COMMIT is examined in the order of R14; a table record is read from the copy named. -/
theorem commitIsTakenAndTablesAreRead : Obligations.CommitIsTakenAndTablesAreRead := by
  unfold Obligations.CommitIsTakenAndTablesAreRead
  refine ⟨?commit, ?read⟩
  case commit =>
    intro q t s h refused taken free
    have code {id : TableId} {b : Byte} (hb : t = b) (hid : b.toNat = id.code) : t.toNat = id.code := hb ▸ hid
    refine ⟨exec_commit_unknown h, fun id ht hp => exec_commit_refused h ht (s.commitRefusal_pending hp),
      fun ht hp => ⟨fun runs => ?_, fun runs busy => ?_, fun runs idle => ?_⟩, fun ht hp => ?_,
      fun ht hp => ⟨fun busy => ?_, fun idle => ?_⟩⟩
    · exact exec_commit_refused h (code ht rfl) ((s.commitRefusal_lineMap hp).trans (if_pos runs))
    · refine exec_commit_refused h (code ht rfl) ((s.commitRefusal_lineMap hp).trans ?_)
      rw [if_neg (not_not.2 runs), if_pos (by simpa using mt State.slotActive_iff.1 busy)]
      rfl
    · refine exec_commit_taken h (code ht rfl) ((s.commitRefusal_lineMap hp).trans ?_)
      rw [if_neg (not_not.2 runs), State.slotActive_iff.2 idle]
      rfl
    · exact exec_commit_taken h (code ht rfl) (s.commitRefusal_classes hp)
    · refine exec_commit_refused h (code ht rfl) ((s.commitRefusal_sequence hp).trans ?_)
      exact if_pos (by simpa using mt State.slotActive_iff.1 busy)
    · refine exec_commit_taken h (code ht rfl) ((s.commitRefusal_sequence hp).trans ?_)
      rw [State.slotActive_iff.2 idle]
      rfl
  case read =>
    intro q code i copy s h limit refused answers c programs steps
    have refuses (hb : serveReadTableRecord [code, i, copy] s = refuse stOutOfRange s) : refused 4 :=
      request_refused (body := serveReadTableRecord) h (by decide) rfl hb
    have known (hk : code.toNat ≤ 4) : recordLimit code.toNat = some limit := by
      obtain e | e | e | e | e : code.toNat = 0 ∨ code.toNat = 1 ∨ code.toNat = 2 ∨ code.toNat = 3 ∨ code.toNat = 4 := by omega
      all_goals simp only [limit, e, recordLimit]
    have copied : s.copy (decide (copy = 1)) = c := by
      unfold State.copy
      simp only [c, decide_eq_true_eq]
    have reads (hc : copy.toNat ≤ 1) (hi : i.toNat ≤ limit) (hk : code.toNat ≤ 4) {first second : Nat}
        {record : Option (List Byte)} (hr : readRecord code.toNat i.toNat s (decide (copy = 1)) = record)
        (hn : readCounts code.toNat s (decide (copy = 1)) = [byte first, byte second]) : answers first second record := by
      have served := serveReadTableRecord_inside (s := s) (known hk) hi hc
      rw [hr, hn] at served
      refine ⟨fun e => ?_, fun bs e => ?_⟩
      · rw [e] at served
        exact request_refused (body := serveReadTableRecord) h (by decide) rfl served
      · rw [e] at served
        exact request_served (body := serveReadTableRecord) h (by decide) rfl served
    refine ⟨fun out => ?_, fun hc hi => ⟨fun e => ?_, fun e => ?_, fun e => ?_, fun e => ?_, fun e => ?_⟩⟩
    · refine refuses ?_
      rcases lt_or_ge 4 code.toNat with hk | hk
      · exact serveReadTableRecord_unknown hk
      obtain out | out | out := out
      · exact absurd hk (not_le.2 out)
      · exact serveReadTableRecord_noCopy out
      · exact serveReadTableRecord_outside (known hk) out
    all_goals subst e
    · exact reads hc hi (by decide) (congrArg (fun t : Tables => (t.lineMap[i.toNat]?).map encodePoint) copied)
        (congrArg (copyCounts .lineMap) copied)
    · exact reads hc hi (by decide) (congrArg (fun t : Tables => (t.classes.getD i.toNat none).map encodeClass) copied)
        (congrArg (copyCounts .classes) copied)
    · exact reads hc hi (by decide) (congrArg (fun t : Tables => (t.seq.programs.getD i.toNat none).map encodeProgram) copied)
        (congrArg (copyCounts .sequence) copied)
    · exact reads hc hi (by decide) rfl rfl
    · exact reads hc hi (by decide) (congrArg (fun t : Tables => (t.seq.steps.getD i.toNat none).map encodeStep) copied)
        (congrArg (copyCounts .sequence) copied)

end Sys2Proof.Machine
end

section
/-! PROOF. ARM, LOAD CHAIN and SET PERMIT (O48); requests of a wrong length, of another row and with an unknown code (O40). -/

namespace Sys2Proof.Machine

variable {s : State} {q : Request} {args : List Byte} {j : SlotId}

/-! ### The ranges of the train parameters (Table 6-5) -/

theorem TrainMode.ofCode_mode (m : TrainMode) : TrainMode.ofCode m.code = some m := by cases m <;> rfl

theorem TrainMode.ofCode_outside {n : Nat} (h : 2 < n) : TrainMode.ofCode n = none := by
  unfold TrainMode.ofCode
  split
  iterate 3 omega
  rfl

theorem TrainMode.exists_code {n : Nat} (h : n ≤ 2) : ∃ m : TrainMode, m.code = n := by
  obtain rfl | rfl | rfl : n = 0 ∨ n = 1 ∨ n = 2 := by omega
  · exact ⟨.single, rfl⟩
  · exact ⟨.train, rfl⟩
  · exact ⟨.permissive, rfl⟩

theorem trainOk_iff (cls base spacing : Nat) :
    trainOk cls base spacing = true ↔ cls ≤ 7 ∧ 1 ≤ base ∧ base ≤ 16 ∧ spacing ≤ 7200 := by
  simp only [trainOk, Bool.and_eq_true, decide_eq_true_eq, and_assoc]

/-! ### ARM (R129) -/

section Arm
variable {k n c m b s1 s0 a : Byte}

/-- The arguments of an ARM in their ranges. -/
def armArgs (j : SlotId) (n c : Byte) (mode : TrainMode) (b s1 s0 a : Byte) : ArmArgs :=
  { slot := j, program := n.toNat, cls := c.toNat, mode := mode, base := b.toNat, spacing := word s1 s0,
    autoRepeat := decide (a = 1) }

theorem flagOfCode_byte {x : Byte} (h : x.toNat ≤ 1) : flagOfCode x.toNat = some (decide (x = 1)) := by
  rw [flagOfCode_inside h]
  exact congrArg some (decide_eq_decide.2 (byte_eq_iff (by decide)).symm)

theorem parseArm_inside {mode : TrainMode} (hj : j.val = k.toNat) (hm : mode.code = m.toNat) (hn : n.toNat ≤ 15)
    (ht : trainOk c.toNat b.toNat (word s1 s0) = true) (ha : a.toNat ≤ 1) :
    parseArm [k, n, c, m, b, s1, s0, a] = some (armArgs j n c mode b s1 s0 a) := by
  have slot : slotOfNat (byteAt [k, n, c, m, b, s1, s0, a] 0) = some j := slotOfNat_eq_some.2 hj
  have mode' : TrainMode.ofCode (byteAt [k, n, c, m, b, s1, s0, a] 3) = some mode :=
    (congrArg TrainMode.ofCode hm.symm).trans mode.ofCode_mode
  have auto : flagOfCode (byteAt [k, n, c, m, b, s1, s0, a] 7) = some (decide (a = 1)) := flagOfCode_byte ha
  unfold parseArm
  rw [slot, mode', auto]
  exact if_pos ⟨hn, ht⟩

theorem parseArm_outside (h : ¬ (k.toNat ≤ 3 ∧ n.toNat ≤ 15 ∧ c.toNat ≤ 7 ∧ m.toNat ≤ 2 ∧ 1 ≤ b.toNat ∧ b.toNat ≤ 16 ∧
    word s1 s0 ≤ 7200 ∧ a.toNat ≤ 1)) : parseArm [k, n, c, m, b, s1, s0, a] = none := by
  show (match slotOfNat k.toNat, TrainMode.ofCode m.toNat, flagOfCode a.toNat with
    | some _, some _, some _ => _
    | _, _, _ => _) = _
  rcases lt_or_ge 3 k.toNat with hk | hk
  · rw [slotOfNat_eq_none.2 hk]
  rcases lt_or_ge 2 m.toNat with hm | hm
  · rw [TrainMode.ofCode_outside hm]
    cases slotOfNat k.toNat <;> rfl
  rcases lt_or_ge 1 a.toNat with ha | ha
  · rw [flagOfCode_outside ha]
    cases slotOfNat k.toNat <;> cases TrainMode.ofCode m.toNat <;> rfl
  have out : ¬ (n.toNat ≤ 15 ∧ trainOk c.toNat b.toNat (word s1 s0) = true) := by
    rw [trainOk_iff]
    exact fun ⟨hn, hc, hb, hb', hs⟩ => h ⟨hk, hn, hc, hm, hb, hb', hs, ha⟩
  cases slotOfNat k.toNat with
  | none => rfl
  | some j =>
    cases TrainMode.ofCode m.toNat with
    | none => rfl
    | some mode =>
      cases flagOfCode a.toNat with
      | none => rfl
      | some auto => exact if_neg out

end Arm

/-- The valves that the OPEN and CLOSE steps of a program name. -/
theorem mem_programValves {t : SeqTable} {p : Program} {i : Nat} : i ∈ programValves t p ↔
    i < 64 ∧ ∃ n o, n < p.count ∧ t.steps.getD (p.first + n) none = some o ∧
      (o.action = .openValve ∨ o.action = .closeValve) ∧ o.operand = some i := by
  unfold programValves programSteps
  rw [List.mem_filter, List.mem_range, List.any_map, List.any_eq_true]
  refine and_congr_right fun _ => ⟨?_, ?_⟩
  · rintro ⟨n, hn, ho⟩
    obtain ⟨o, step, acts⟩ : ∃ o, t.steps.getD (p.first + n) none = some o ∧
        ((o.action == .openValve || o.action == .closeValve) && o.operand == some i) = true := by
      cases e : t.steps.getD (p.first + n) none with
      | none => simp only [Function.comp, e, Option.elim, Bool.false_eq_true] at ho
      | some o => exact ⟨o, rfl, by simpa only [Function.comp, e, Option.elim] using ho⟩
    simp only [Bool.and_eq_true, Bool.or_eq_true, beq_iff_eq] at acts
    exact ⟨n, o, List.mem_range.1 hn, step, acts⟩
  · rintro ⟨n, o, hn, step, acts⟩
    refine ⟨n, List.mem_range.2 hn, ?_⟩
    simp only [Function.comp, step, Option.elim, Bool.and_eq_true, Bool.or_eq_true, beq_iff_eq]
    exact acts

theorem State.unreserved_iff {ps : List Nat} :
    s.unreserved ps = true ↔ ∀ i v, i ∈ ps → s.valve i = some v → v.reserving = none := by
  unfold State.unreserved
  rw [List.all_eq_true]
  refine ⟨fun h i v hi hv => ?_, fun h i hi => ?_⟩
  · have free := h i hi
    rw [hv] at free
    exact Option.isNone_iff_eq_none.1 free
  · cases hv : s.valve i with
    | none => rfl
    | some v => exact Option.isNone_iff_eq_none.2 (h i v hi hv)

theorem reserveValves_valve (ps : List Nat) (i : Nat) : (reserveValves j ps s).valve i =
    (s.valve i).map fun v => if ps.contains v.point then { v with reserving := some j } else v :=
  State.valve_setValves_map (fun v => by split <;> rfl) i

theorem reserveValves_named {ps : List Nat} {i : Nat} {v : ValveRec} (hi : i ∈ ps) (hv : s.valve i = some v) :
    (reserveValves j ps s).valve i = some { v with reserving := some j } := by
  rw [reserveValves_valve, hv]
  exact congrArg some (if_pos (by rw [(s.valve_mem hv).2]; exact List.contains_iff_mem.2 hi))

theorem reserveValves_other {ps : List Nat} {i : Nat} (hi : i ∉ ps) : (reserveValves j ps s).valve i = s.valve i := by
  rw [reserveValves_valve]
  cases hv : s.valve i with
  | none => rfl
  | some v => exact congrArg some (if_neg (by rw [(s.valve_mem hv).2]; exact mt List.contains_iff_mem.1 hi))

section ServeArm

theorem serveArm_wrongMode (h : s.mgmt.mode ≠ .guarded) : serveArm args s = refuse stWrongMode s := if_pos h

variable (hg : s.mgmt.mode = .guarded)
include hg

theorem serveArm_outside (h : parseArm args = none) : serveArm args s = refuse stOutOfRange s := by
  unfold serveArm
  rw [if_neg (not_not.2 hg), h]

variable {a : ArmArgs} (ha : parseArm args = some a)
include ha

theorem serveArm_wrongState (h : (s.slot a.slot).state ≠ .idle) : serveArm args s = refuse stWrongState s := by
  unfold serveArm
  rw [if_neg (not_not.2 hg), ha]
  exact if_pos h

variable (hi : (s.slot a.slot).state = .idle)
include hi

theorem serveArm_noProgram (h : s.programAt a.program = none) : serveArm args s = refuse stNotFound s := by
  unfold serveArm
  rw [if_neg (not_not.2 hg), ha]
  dsimp only
  rw [if_neg (not_not.2 hi), h]

theorem serveArm_noClass (h : s.classAt a.cls = none) : serveArm args s = refuse stNotFound s := by
  unfold serveArm
  rw [if_neg (not_not.2 hg), ha]
  dsimp only
  rw [if_neg (not_not.2 hi), h]
  cases s.programAt a.program <;> rfl

theorem serveArm_known {p : Program} {cl : PigClass} (hp : s.programAt a.program = some p) (hc : s.classAt a.cls = some cl) :
    serveArm args s = if s.unreserved (programValves s.tables.active.seq p) then
      served [] (armSlot a (programValves s.tables.active.seq p) s) else refuse stConflict s := by
  unfold serveArm
  rw [if_neg (not_not.2 hg), ha]
  dsimp only
  rw [if_neg (not_not.2 hi), hp]
  dsimp only
  rw [hc]
  rfl

end ServeArm

/-! ### LOAD CHAIN (R134) -/

section LoadChain
variable {k present c m b s1 s0 : Byte}

theorem parseChain_clears (h : present = 0) : parseChain [k, present, c, m, b, s1, s0] = some none := by
  subst h
  rfl

theorem parseChain_unknown (h : 1 < present.toNat) : parseChain [k, present, c, m, b, s1, s0] = none := by
  unfold parseChain
  rw [show byteAt [k, present, c, m, b, s1, s0] 1 = present.toNat from rfl, flagOfCode_outside h]

theorem parseChain_present {mode : TrainMode} (h : present = 1) (hm : m.toNat = mode.code) :
    parseChain [k, present, c, m, b, s1, s0] = if trainOk c.toNat b.toNat (word s1 s0) then
      some (some { cls := c.toNat, mode := mode, base := b.toNat, spacing := word s1 s0 }) else none := by
  subst h
  unfold parseChain
  rw [show flagOfCode (byteAt [k, 1, c, m, b, s1, s0] 1) = some true from rfl]
  dsimp only
  rw [show byteAt [k, 1, c, m, b, s1, s0] 3 = m.toNat from rfl, hm, mode.ofCode_mode]
  rfl

theorem parseChain_outside (h : present = 1)
    (out : ¬ (c.toNat ≤ 7 ∧ m.toNat ≤ 2 ∧ 1 ≤ b.toNat ∧ b.toNat ≤ 16 ∧ word s1 s0 ≤ 7200)) :
    parseChain [k, present, c, m, b, s1, s0] = none := by
  rcases lt_or_ge 2 m.toNat with hm | hm
  · subst h
    unfold parseChain
    rw [show flagOfCode (byteAt [k, 1, c, m, b, s1, s0] 1) = some true from rfl]
    dsimp only
    rw [show byteAt [k, 1, c, m, b, s1, s0] 3 = m.toNat from rfl, TrainMode.ofCode_outside hm]
  · obtain ⟨mode, code⟩ := TrainMode.exists_code hm
    rw [parseChain_present h code.symm]
    exact if_neg fun ok => out (by
      obtain ⟨hc, hb, hb', hs⟩ := (trainOk_iff ..).1 ok
      exact ⟨hc, hm, hb, hb', hs⟩)

end LoadChain

theorem serveLoadChain_noSlot (h : 3 < byteAt args 0) : serveLoadChain args s = refuse stOutOfRange s := by
  unfold serveLoadChain
  rw [slotOfNat_eq_none.2 h]

theorem serveLoadChain_outside (h : parseChain args = none) : serveLoadChain args s = refuse stOutOfRange s := by
  unfold serveLoadChain
  rw [h]
  cases slotOfNat (byteAt args 0) <;> rfl

theorem serveLoadChain_inside {chain : Option Chain} (hj : j.val = byteAt args 0) (h : parseChain args = some chain) :
    serveLoadChain args s =
      if (s.slot j).state = .idle then refuse stWrongState s
      else if chain.elim false (fun c => (s.classAt c.cls).isNone) then refuse stNotFound s
      else served [] (s.setSlot j { s.slot j with chain := chain }) := by
  unfold serveLoadChain
  rw [slotOfNat_eq_some.2 hj, h]
  rfl

/-! ### SET PERMIT (R131) -/

theorem serveSetPermit_outside {k on : Byte} (h : 3 < k.toNat ∨ 1 < on.toNat) :
    serveSetPermit [k, on] s = refuse stOutOfRange s := by
  unfold serveSetPermit
  rw [show byteAt [k, on] 0 = k.toNat from rfl, show byteAt [k, on] 1 = on.toNat from rfl]
  obtain h | h := h
  · rw [slotOfNat_eq_none.2 h]
  · rw [flagOfCode_outside h]
    cases slotOfNat k.toNat <;> rfl

theorem serveSetPermit_inside {k on : Byte} (hj : j.val = k.toNat) (h : on.toNat ≤ 1) :
    serveSetPermit [k, on] s = served [] (s.setSlot j { s.slot j with permit := decide (on = 1) }) := by
  unfold serveSetPermit
  rw [show byteAt [k, on] 0 = k.toNat from rfl, show byteAt [k, on] 1 = on.toNat from rfl, slotOfNat_eq_some.2 hj,
    flagOfCode_byte h]
  rfl

/-- Settles O48. Each row is refused in the order of its rule, and otherwise sets the slot record that its arguments give. -/
theorem slotsAreArmedAndPrepared : Obligations.SlotsAreArmedAndPrepared := by
  unfold Obligations.SlotsAreArmedAndPrepared
  refine ⟨?arm, ?chain, ?permit⟩
  case arm =>
    intro q k n c m b s1 s0 a s h spacing inRange refused
    have refuses {status : Nat} (hb : serveArm [k, n, c, m, b, s1, s0, a] s = refuse status s) : refused status :=
      request_refused (body := serveArm) h (by decide) rfl hb
    refine ⟨fun hg => refuses (serveArm_wrongMode hg), fun hg out => refuses (serveArm_outside hg (parseArm_outside out)),
      fun j hg ok hj => ?_⟩
    obtain ⟨-, hn, hc, hm, hb, hb', hs, ha⟩ := ok
    obtain ⟨mode, code⟩ := TrainMode.exists_code hm
    have parsed : parseArm [k, n, c, m, b, s1, s0, a] = some (armArgs j n c mode b s1 s0 a) :=
      parseArm_inside hj code hn ((trainOk_iff ..).2 ⟨hc, hb, hb', hs⟩) ha
    refine ⟨fun busy => refuses (serveArm_wrongState hg parsed busy), fun idle unknown => refuses ?_,
      fun p cl idle hp hcl => ?_⟩
    · obtain unknown | unknown := unknown
      · exact serveArm_noProgram hg parsed idle unknown
      · exact serveArm_noClass hg parsed idle unknown
    intro named
    have names (i : Nat) : i ∈ programValves s.tables.active.seq p ↔ named i := mem_programValves
    have arms := serveArm_known hg parsed idle hp hcl
    refine ⟨fun ⟨i, v, hi, hv, taken⟩ => refuses (arms.trans (if_neg fun free => ?_)), fun free => ?_⟩
    · exact taken (State.unreserved_iff.1 free i v ((names i).2 hi) hv)
    have unreserved : s.unreserved (programValves s.tables.active.seq p) = true :=
      State.unreserved_iff.2 fun i v hi => free i v ((names i).1 hi)
    refine ⟨armSlot (armArgs j n c mode b s1 s0 a) (programValves s.tables.active.seq p) s,
      programValves s.tables.active.seq p, mode,
      request_answers (body := serveArm) h (by decide) rfl (arms.trans (if_pos unreserved)) rfl, names, code,
      State.slot_updSlot_same _, fun i hi => State.slot_updSlot_ne _ hi,
      fun i v hi hv => reserveValves_named ((names i).2 hi) hv, fun i hi => reserveValves_other (mt (names i).1 hi),
      rfl, rfl, rfl, rfl, rfl, rfl⟩
  case chain =>
    intro q k present c m b s1 s0 s h spacing inRange refused
    have refuses {status : Nat} (hb : serveLoadChain [k, present, c, m, b, s1, s0] s = refuse status s) : refused status :=
      request_refused (body := serveLoadChain) h (by decide) rfl hb
    refine ⟨fun out => refuses ?_, fun j hj ok => ?_⟩
    · obtain out | out | ⟨one, out⟩ := out
      · exact serveLoadChain_noSlot out
      · exact serveLoadChain_outside (parseChain_unknown out)
      · exact serveLoadChain_outside (parseChain_outside one out)
    have given (hp : present = 1) {mode : TrainMode} (hm : m.toNat = mode.code) :
        parseChain [k, present, c, m, b, s1, s0] =
          some (some { cls := c.toNat, mode := mode, base := b.toNat, spacing := spacing }) := by
      obtain rfl | ⟨-, hc, -, hb, hb', hs⟩ := ok
      · exact absurd hp (by decide)
      · exact (parseChain_present hp hm).trans (if_pos ((trainOk_iff ..).2 ⟨hc, hb, hb', hs⟩))
    have parsed : ∃ chain, parseChain [k, present, c, m, b, s1, s0] = some chain := by
      obtain zero | ⟨one, ok⟩ := ok
      · exact ⟨_, parseChain_clears zero⟩
      · obtain ⟨mode, code⟩ := TrainMode.exists_code ok.2.1
        exact ⟨_, given one code.symm⟩
    refine ⟨fun idle => ?_, fun busy hp unknown => ?_, fun busy hp => ?_, fun cl mode busy hp hcl hm => ?_⟩
    · obtain ⟨chain, parsed⟩ := parsed
      exact refuses ((serveLoadChain_inside hj parsed).trans (if_pos idle))
    · obtain ⟨-, ok⟩ := ok.resolve_left (by rw [hp]; decide)
      obtain ⟨mode, code⟩ := TrainMode.exists_code ok.2.1
      refine refuses ((serveLoadChain_inside hj (given hp code.symm)).trans ((if_neg busy).trans (if_pos ?_)))
      show (s.classAt c.toNat).isNone = true
      rw [unknown]
      rfl
    · exact request_answers (body := serveLoadChain) h (by decide) rfl
        ((serveLoadChain_inside hj (parseChain_clears hp)).trans (if_neg busy)) rfl
    · refine request_answers (body := serveLoadChain) h (by decide) rfl
        ((serveLoadChain_inside hj (given hp hm)).trans ((if_neg busy).trans (if_neg ?_))) rfl
      show ¬ (s.classAt c.toNat).isNone = true
      rw [hcl]
      exact Bool.false_ne_true
  case permit =>
    intro q k on s h
    exact ⟨fun out => request_refused (body := serveSetPermit) h (by decide) rfl (serveSetPermit_outside out),
      fun j hj hon => request_answers (body := serveSetPermit) h (by decide) rfl (serveSetPermit_inside hj hon) rfl⟩

/-! ### Requests in their turn (R176, R177) -/

/-- A request of a wrong length, a row whose code is not that in service, and a row without a free place. -/
def ServedInTurn (x : Instr × Nat × Nat) : Prop :=
  ∀ (r : Request) (s : State),
    (∀ args, s.serving r x.2.1 args = true → args.length ≠ x.2.2 → exec x.1 s = .next (s.answered r x.2.1 3 [])) ∧
    (s.powered = true → s.mgmt.service = some ⟨r, .unserved⟩ → r.code ≠ some x.2.1 → exec x.1 s = .next s) ∧
    (s.powered = true → s.mgmt.service = some ⟨r, .unserved⟩ → r.payload ≠ [6#8] → s.freePlaces = 0 →
      exec x.1 s = .next s)

theorem hasLength_false {n : Nat} (h : args.length ≠ n) : hasLength n args = false := beq_false_of_ne h

theorem request_badLength {code : Nat} {len : List Byte → Bool} (body : List Byte → State → Served)
    (h : s.serving q code args = true) (hc : code < 256) (hl : len args = false) :
    request code len body s = .next (s.answered q code 3 []) := by
  rw [request_serving h hc len body fun ok => absurd ok (by rw [hl]; exact Bool.false_ne_true), hl]
  rfl

/-- A row of a fixed length is served in turn. -/
theorem servedInTurn {row : Instr} {code n : Nat} (body : List Byte → State → Served)
    (hrow : ∀ s, exec row s = request code (hasLength n) body s) (hc : code < 256) : ServedInTurn (row, code, n) := fun _ s =>
  ⟨fun _ h hl => (hrow s).trans (request_badLength body h hc (hasLength_false hl)),
    fun hp hs hr => (hrow s).trans (request_other hp hs (.inl hr) _ _),
    fun hp hs _ hf => (hrow s).trans (request_other hp hs (.inr hf) _ _)⟩

/-- An unserved request that is not LINK CLEAR's alone meets the LINK CLEAR row as any other row. -/
theorem exec_linkClear_other {r : Request} (hs : s.mgmt.service = some ⟨r, .unserved⟩) (hr : r.payload ≠ [6#8]) :
    exec .linkClear s = request 6 (hasLength 0) (fun _ s => refuse stBadRequest s) s := by
  show live serveLinkClear s = live (serveRequest 6 _ _) s
  have other : serveLinkClear s = serveRequest 6 (hasLength 0) (fun _ s => refuse stBadRequest s) s := by
    unfold serveLinkClear
    rw [hs]
    exact if_neg (show ¬ (r.payload == [6#8]) = true by simpa using hr)
  unfold live
  rw [other]

theorem linkClear_servedInTurn : ServedInTurn (.linkClear, 6, 0) := by
  intro r s
  refine ⟨fun args h hl => ?_, fun hp hs hr => ?_, fun hp hs hr hf => ?_⟩
  · obtain ⟨-, hs, hpay, -, -⟩ := State.serving_spec h
    have more : r.payload ≠ [6#8] := fun e => hl (by rw [(List.cons.inj (hpay.symm.trans e)).2]; rfl)
    exact (exec_linkClear_other hs more).trans (request_badLength _ h (by decide) (hasLength_false hl))
  · have more : r.payload ≠ [6#8] := fun e => hr (by unfold Request.code; rw [e]; rfl)
    exact (exec_linkClear_other hs more).trans (request_other hp hs (.inl hr) _ _)
  · exact (exec_linkClear_other hs hr).trans (request_other hp hs (.inr hf) _ _)

/-- A row outside the shared shape is served in turn when it answers BAD REQUEST for a wrong length and stands still for another
code or without a place. -/
theorem servedInTurn_of {row : Instr} {code n : Nat} {f : State → State} (hrow : ∀ s, exec row s = live f s) (hc : code < 256)
    (wrong : ∀ (r : Request) (s : State), s.mgmt.service = some ⟨r, .unserved⟩ → r.code = some code → 0 < s.freePlaces →
      r.args.length ≠ n → f s = answerAndLeave r stBadRequest [] s)
    (still : ∀ (r : Request) (s : State), s.mgmt.service = some ⟨r, .unserved⟩ → ¬ (r.code = some code ∧ 0 < s.freePlaces) →
      f s = s) : ServedInTurn (row, code, n) := by
  intro r s
  refine ⟨fun args h hl => ?_, fun hp hs hr => ?_, fun hp hs _ hf => ?_⟩
  · obtain ⟨hp, hs, hpay, hf, hw⟩ := State.serving_spec h
    have hcode := Request.code_of_payload hpay hc
    rw [hrow, live_next hp (wrong r s hs hcode hf (by rwa [Request.args_of_payload hpay])), answerAndLeave_eq r _ _ hw, hcode]
    rfl
  · exact (hrow s).trans (live_next hp (still r s hs fun h => hr h.1))
  · exact (hrow s).trans (live_next hp (still r s hs fun h => by omega))

theorem restart_servedInTurn : ServedInTurn (.restart, 7, 0) := by
  refine servedInTurn_of (f := serveRestart) (fun _ => rfl) (by decide) (fun r s hs hc hf hl => ?_) fun r s hs h => ?_
  · unfold serveRestart
    rw [hs]
    exact (if_pos ⟨hc, hf⟩).trans (if_neg fun e => hl (by rw [e]; rfl))
  · unfold serveRestart
    rw [hs]
    exact if_neg h

theorem commit_servedInTurn : ServedInTurn (.commit, 15, 1) := by
  refine servedInTurn_of (f := serveCommit) (fun _ => rfl) (by decide) (fun r s hs hc hf hl => ?_) fun r s hs h => ?_
  · unfold serveCommit
    rw [hs]
    exact (if_pos ⟨hc, hf⟩).trans (if_neg (by rw [hasLength_false hl]; exact Bool.false_ne_true))
  · unfold serveCommit
    rw [hs]
    exact if_neg h

theorem pointLengthOk_false (h : args.length < 8 ∨ ∃ n, pointArgLength (byteAt args 1) = some n ∧ args.length ≠ n) :
    pointLengthOk args = false := by
  unfold pointLengthOk
  obtain h | ⟨n, hn, h⟩ := h
  · rw [decide_eq_false (not_le.2 h)]
    rfl
  · rw [hn]
    dsimp only
    rw [beq_false_of_ne h]
    exact Bool.and_false _

section Unknown
variable {f : Frame}

theorem State.answerUnknown_serves {r : Request} (hs : s.mgmt.service = some ⟨r, .unserved⟩) (hw : s.mgmt.waiting = none)
    (hk : r.known = false) (hf : 0 < s.freePlaces) :
    answerUnknown s = (answerRequest r stBadRequest [] false s).setInput none none := by
  unfold answerUnknown
  rw [hs]
  dsimp only
  rw [if_pos ⟨hk, hf⟩]
  unfold leaveService
  rw [show (answerRequest r stBadRequest [] false s).mgmt.waiting = none from hw]
  rfl

theorem answerUnknown_empty (h : s.mgmt.service = none) : answerUnknown s = s := by
  unfold answerUnknown
  rw [h]

/-- A request with an unknown code at an empty input slot is answered at once (log entry 20). -/
theorem intake_unknown (hm : s.mgmt.config.managerNode = 0 ∨ s.mgmt.config.managerNode = frameSource f)
    (hv : s.mgmt.service = none) (hw : s.mgmt.waiting = none) (hk : (requestOf f).known = false) (hf : 0 < s.freePlaces) :
    intake f s = answerRequest (requestOf f) stBadRequest [] false s := by
  unfold intake
  dsimp only
  rw [if_neg (not_denied hm), hv]
  show settleInput (s.setInput (some ⟨requestOf f, .unserved⟩) s.mgmt.waiting) = _
  unfold settleInput
  rw [State.answerUnknown_serves (s := s.setInput (some ⟨requestOf f, .unserved⟩) s.mgmt.waiting) rfl hw hk hf]
  exact (answerUnknown_empty rfl).trans
    (congrArg₂ (answerRequest (requestOf f) stBadRequest [] false s).setInput hv.symm hw.symm)

end Unknown

/-- Settles O40. The rows share the refusals of their shape; LINK CLEAR, RESTART and COMMIT keep them in shapes of their own. -/
theorem requestsAreServedInTurn : Obligations.RequestsAreServedInTurn := by
  unfold Obligations.RequestsAreServedInTurn
  refine ⟨?rows, fun r args s h hl => request_badLength serveLoadPoint h (by decide) (pointLengthOk_false hl), ?unknown⟩
  case rows =>
    simp only [List.forall_mem_cons]
    exact ⟨servedInTurn serveReadStatus (fun _ => rfl) (by decide), servedInTurn serveSetMode (fun _ => rfl) (by decide),
      servedInTurn serveSetConfig (fun _ => rfl) (by decide), servedInTurn serveSetTime (fun _ => rfl) (by decide),
      servedInTurn serveAckConditions (fun _ => rfl) (by decide), linkClear_servedInTurn, restart_servedInTurn,
      servedInTurn serveLoadClass (fun _ => rfl) (by decide), servedInTurn serveLoadProgram (fun _ => rfl) (by decide),
      servedInTurn serveLoadStep (fun _ => rfl) (by decide), servedInTurn serveClearShadow (fun _ => rfl) (by decide),
      commit_servedInTurn, servedInTurn serveReadTableRecord (fun _ => rfl) (by decide),
      servedInTurn serveReadRun (fun _ => rfl) (by decide), servedInTurn serveAdoptRun (fun _ => rfl) (by decide),
      servedInTurn serveAbandonRun (fun _ => rfl) (by decide), servedInTurn serveRepositionRun (fun _ => rfl) (by decide),
      servedInTurn serveArm (fun _ => rfl) (by decide), servedInTurn serveStart (fun _ => rfl) (by decide),
      servedInTurn serveSetPermit (fun _ => rfl) (by decide), servedInTurn serveEnd (fun _ => rfl) (by decide),
      servedInTurn serveAbort (fun _ => rfl) (by decide), servedInTurn serveResume (fun _ => rfl) (by decide),
      servedInTurn serveRetry (fun _ => rfl) (by decide), servedInTurn serveLoadChain (fun _ => rfl) (by decide),
      servedInTurn serveReadSlot (fun _ => rfl) (by decide), servedInTurn serveReadValve (fun _ => rfl) (by decide),
      servedInTurn serveReadNode (fun _ => rfl) (by decide), servedInTurn serveReadFlow (fun _ => rfl) (by decide),
      servedInTurn serveLoadWatch (fun _ => rfl) (by decide), servedInTurn serveReadLog (fun _ => rfl) (by decide),
      servedInTurn serveLogResume (fun _ => rfl) (by decide), fun _ h => absurd h List.not_mem_nil⟩
  case unknown =>
    intro f s hp hl hb hf hn hk hm hv hw hc
    have code : (requestOf f).known = false := by
      unfold Request.known Request.code requestOf
      cases e : (framePayload f).head? with
      | none => rfl
      | some c => simpa using hc c e
    refine live_next hp ((receiveFrame_good hl hb takeOnA).trans ((takeOnA_own (s := s.frameEnded .a) hf hn).trans ((if_pos hk).trans ?_)))
    refine (intake_unknown (s := s.repliedTo .a .accept) hm hv hw code hf).trans
      ((answerRequest_own (s := s.repliedTo .a .accept) hn 3).trans ?_)
    cases (framePayload f).head? with
    | none => rfl
    | some c => rw [Option.elim_some, byte_of_toNat]; rfl

end Sys2Proof.Machine
end

section
/-! PROOF. ADOPT RUN, ABANDON RUN and REPOSITION RUN (O47). -/

namespace Sys2Proof.Machine

variable {s : State} {q : Request} {args : List Byte}

/-! ### ADOPT RUN (R32) -/

/-- The place of a new run whose id no other run has. -/
theorem getElem?_placeOf_placeRun {x : Run} {rs : List Run} (h : ∀ y ∈ rs, y.id ≠ x.id) :
    (placeRun x rs)[placeOf (placeRun x rs) x.id]? = some x := by
  have here : x ∈ placeRun x rs := (placeRun_perm x rs).mem_iff.2 List.mem_cons_self
  have found : placeOf (placeRun x rs) x.id < (placeRun x rs).length :=
    List.findIdx_lt_length_of_exists ⟨x, here, beq_self_eq_true _⟩
  rw [List.getElem?_eq_getElem found]
  have same : ((placeRun x rs)[placeOf (placeRun x rs) x.id]).id = x.id := by
    exact beq_iff_eq.1 (List.findIdx_getElem (p := fun r : Run => r.id == x.id) (w := found))
  obtain e | e := List.mem_cons.1 ((placeRun_perm x rs).mem_iff.1 (List.getElem_mem found))
  · rw [e]
  · exact absurd same (h _ e)

theorem serveAdoptRun_transparent (h : s.mgmt.mode = .transparent) : serveAdoptRun args s = refuse stWrongMode s := if_pos h

section Adopt
variable (hm : s.mgmt.mode ≠ .transparent) {c p : Byte}
include hm

theorem serveAdoptRun_outside (h : ¬ (c.toNat ≤ 7 ∧ p.toNat ≤ 63)) : serveAdoptRun [c, p] s = refuse stOutOfRange s := by
  refine (if_neg hm).trans (if_pos ?_)
  show 7 < c.toNat ∨ 63 < p.toNat
  omega

variable (hr : c.toNat ≤ 7 ∧ p.toNat ≤ 63)
include hr

theorem serveAdoptRun_inside : serveAdoptRun [c, p] s =
    if (s.classAt c.toNat).isNone then refuse stNotFound s
    else if s.adoptionPoint p.toNat = false then refuse stNotFound s
    else if s.hasRoom = false then refuse stTableFull s
    else served [byte s.nextRunId, byte (placeOf (adoptRun c.toNat p.toNat s).tracker.runs s.nextRunId)]
      (adoptRun c.toNat p.toNat s) :=
  (if_neg hm).trans (if_neg (show ¬ (7 < c.toNat ∨ 63 < p.toNat) by omega))

end Adopt

theorem State.adoptionPoint_iff {p : Nat} : s.adoptionPoint p = true ↔
    ∃ x, s.map[p]? = some x ∧ (x.isTrap = true ∨ x.isDetector = true) := by
  unfold State.adoptionPoint
  cases s.map[p]? with
  | none => simp
  | some x => simp

/-! ### ABANDON RUN (R33) -/

theorem serveAbandonRun_zero (h : byteAt args 0 = 0) : serveAbandonRun args s = refuse stOutOfRange s := if_pos h

theorem serveAbandonRun_run (h : byteAt args 0 ≠ 0) : serveAbandonRun args s =
    (s.run (byteAt args 0)).elim (refuse stNotFound s) fun r => served [] (removeRun .abandoned r r.lastFix 0 s) := by
  refine (if_neg h).trans ?_
  cases s.run (byteAt args 0) <;> rfl

theorem removeRun_abandoned (x : Run) : removeRun .abandoned x x.lastFix 0 s =
    { s with
      tracker := { s.tracker with
        runs := s.tracker.runs.filter (fun y => y.id != x.id), abandoned := s.tracker.abandoned + 1#32 }
      seq := (removeRun .abandoned x x.lastFix 0 s).seq
      log := s.logWith (s.record .runAbandoned x.id x.lastFix (slotNumber x.bound) 0) } := by
  rw [removeRun_eq_takeOut, takeOut_eq]
  rfl

/-! ### REPOSITION RUN (R34) -/

section Reposition
variable {id p : Byte}

theorem serveRepositionRun_outside (h : id = 0 ∨ 63 < p.toNat) : serveRepositionRun [id, p] s = refuse stOutOfRange s :=
  if_pos (h.imp_left fun e => by rw [e]; rfl)

variable (hi : id ≠ 0) (hp : p.toNat ≤ 63)
include hi hp

theorem serveRepositionRun_inside : serveRepositionRun [id, p] s =
    (s.run id.toNat).elim (refuse stNotFound s) fun r =>
      if (s.map[p.toNat]?).elim false Point.isDetector = false then refuse stNotFound s
      else if s.orderViolation id.toNat (chainMm s.map p.toNat) then refuse stOrderViolation s
      else served [] (repositionRun r p.toNat s) := by
  have inside : ¬ (id.toNat = 0 ∨ 63 < p.toNat) := by
    have : id.toNat ≠ 0 := fun e => hi (BitVec.eq_of_toNat_eq e)
    omega
  refine (if_neg inside).trans ?_
  show (match s.run id.toNat with
    | none => _
    | some r => _) = _
  cases s.run id.toNat <;> rfl

end Reposition

theorem State.isDetector_iff {p : Nat} :
    (s.map[p]?).elim false Point.isDetector = true ↔ ∃ x, s.map[p]? = some x ∧ x.isDetector = true := by
  cases s.map[p]? with
  | none => simp
  | some x => simp

theorem State.orderViolation_split {ahead behind : List Run} {x : Run} (hr : s.tracker.runs = ahead ++ x :: behind)
    (ha : ∀ y ∈ ahead, y.id ≠ x.id) (pd : Nat) : s.orderViolation x.id pd = true ↔
      (∃ l, ahead.getLast? = some l ∧ l.position < pd) ∨ ∃ f, behind.head? = some f ∧ pd < f.position := by
  unfold State.orderViolation
  rw [hr, leaderPos_split ha, followerPos_split ha, Bool.or_eq_true]
  refine or_congr ?_ ?_
  · cases ahead.getLast? <;> simp
  · cases behind.head? <;> simp

/-- Settles O47. The three rows in the order of their refusals; the table around a run is split at that run. -/
theorem runsByRequest : Obligations.RunsByRequest := by
  unfold Obligations.RunsByRequest
  refine ⟨?adopt, ?abandon, ?reposition⟩
  case adopt =>
    intro q c p s h refused inRange known
    have refuses {status : Nat} (hb : serveAdoptRun [c, p] s = refuse status s) : refused status :=
      request_refused (body := serveAdoptRun) h (by decide) rfl hb
    refine ⟨fun hm => refuses (serveAdoptRun_transparent hm), fun hm out => refuses (serveAdoptRun_outside hm out),
      fun hm hr unknown => refuses ?_, fun hm hr hk full => refuses ?_, fun hm hr hk room counted => ?_⟩
    · rw [serveAdoptRun_inside hm hr]
      cases hc : s.classAt c.toNat with
      | none => rfl
      | some k => exact (if_neg Bool.false_ne_true).trans (if_pos (Bool.eq_false_iff.2 fun point =>
          unknown ⟨⟨k, hc⟩, State.adoptionPoint_iff.1 point⟩))
    all_goals
      obtain ⟨⟨k, hc⟩, point⟩ := hk
      have inside := serveAdoptRun_inside hm hr
      rw [hc, State.adoptionPoint_iff.2 point] at inside
    · exact inside.trans (if_pos (decide_eq_false (not_lt.2 full)))
    · have hroom : ¬ s.hasRoom = false := by rw [State.hasRoom, decide_eq_true room]; decide
      obtain ⟨-, -, hl, -⟩ := counted
      obtain ⟨free, first⟩ := nextRunId_first hl room
      refine ⟨entryRun s s.nextRunId c.toNat p.toNat .adopted none, _,
        request_answers (body := serveAdoptRun) h (by decide) rfl (inside.trans (if_neg hroom)) rfl,
        getElem?_placeOf_placeRun free, free, first, rfl⟩
  case abandon =>
    intro q id s h
    have nonzero (hi : id ≠ 0) : byteAt [id] 0 ≠ 0 := fun e => hi (BitVec.eq_of_toNat_eq e)
    refine ⟨fun hi => ?_, fun hi hn => ?_, fun x hi hx => ?_⟩
    · subst hi
      exact request_refused (body := serveAbandonRun) h (by decide) rfl (serveAbandonRun_zero rfl)
    · refine request_refused (body := serveAbandonRun) h (by decide) rfl ((serveAbandonRun_run (nonzero hi)).trans ?_)
      rw [show s.run (byteAt [id] 0) = none from State.run_none hn]
      rfl
    · obtain ⟨hid, -⟩ := exists_split_of_find? hx
      have taken : serveAbandonRun [id] s = served [] (removeRun .abandoned x x.lastFix 0 s) := by
        rw [serveAbandonRun_run (nonzero hi), show s.run (byteAt [id] 0) = some x from hx]
        rfl
      obtain ⟨seq, whole⟩ : ∃ seq, removeRun .abandoned x x.lastFix 0 s = { s with
          tracker := { s.tracker with
            runs := s.tracker.runs.filter (fun y => y.id != x.id), abandoned := s.tracker.abandoned + 1#32 }
          seq := seq
          log := s.logWith (s.record .runAbandoned x.id x.lastFix (slotNumber x.bound) 0) } := ⟨_, removeRun_abandoned x⟩
      have slots (k : SlotId) := congrArg (State.slot · k) whole.symm
      rw [whole] at taken
      rw [← hid]
      exact ⟨_, request_answers (body := serveAbandonRun) h (by decide) rfl taken rfl, rfl,
        fun k => (slots k).trans (removeRun_slot .abandoned x x.lastFix 0), rfl, rfl, rfl, rfl, rfl, rfl, rfl, rfl,
        rfl, rfl, rfl⟩
  case reposition =>
    intro q id p s h refused pd isDetector
    have refuses {status : Nat} (hb : serveRepositionRun [id, p] s = refuse status s) : refused status :=
      request_refused (body := serveRepositionRun) h (by decide) rfl hb
    refine ⟨fun out => refuses (serveRepositionRun_outside out), fun hi hp hn => refuses ?_,
      fun ahead x behind hi hp hr hx other => ?_⟩
    · rw [serveRepositionRun_inside hi hp, State.run_none hn]
      rfl
    intro breaks
    have ha (y : Run) (hy : y ∈ ahead) : y.id ≠ x.id := other y (List.mem_append_left _ hy)
    have hb (y : Run) (hy : y ∈ behind) : y.id ≠ x.id := other y (List.mem_append_right _ hy)
    have found : s.run id.toNat = some x := by
      rw [← hx]
      show s.tracker.runs.find? _ = _
      rw [hr]
      exact find?_split ha
    have inside := serveRepositionRun_inside (s := s) hi hp
    rw [found, Option.elim_some, ← hx] at inside
    have violates : s.orderViolation x.id (chainMm s.map p.toNat) = true ↔ breaks := State.orderViolation_split hr ha pd
    refine ⟨fun not => refuses (inside.trans (if_pos (Bool.eq_false_iff.2 (mt State.isDetector_iff.1 not)))),
      fun det viol => refuses (inside.trans ?_), fun det keeps => ?_⟩
    · exact (if_neg (by rw [State.isDetector_iff.2 det]; decide)).trans (if_pos (violates.2 viol))
    · have taken : serveRepositionRun [id, p] s = served [] (repositionRun x p.toNat s) :=
        inside.trans ((if_neg (by rw [State.isDetector_iff.2 det]; decide)).trans (if_neg (mt violates.1 keeps)))
      refine (request_answers (body := serveRepositionRun) h (by decide) rfl taken rfl).trans ?_
      have runs := map_update_split ha hb fun r => r.repositioned s.map (s.classOf r.cls) p.toNat
      unfold repositionRun State.updRun
      rw [hr, runs]
      rfl

end Sys2Proof.Machine
end

section
/-! PROOF. The loads into the shadow tables and the watch list (O44). -/

namespace Sys2Proof.Machine

variable {s : State} {t : TableId} {store : Tables → Option Tables}

theorem loadShadow_pending (h : s.tables.pendingCommit = some t) : loadShadow t store s = refuse stPending s := if_pos h

theorem loadShadow_refused (h : s.tables.pendingCommit ≠ some t) (hs : store s.tables.shadow = none) :
    loadShadow t store s = refuse stOutOfRange s := by
  refine (if_neg h).trans ?_
  rw [hs]

theorem loadShadow_stored {sh : Tables} (h : s.tables.pendingCommit ≠ some t) (hs : store s.tables.shadow = some sh) :
    loadShadow t store s = served [] (s.setShadow sh) := by
  refine (if_neg h).trans ?_
  rw [hs]

/-! ### Class, program, step and watch records -/

section Class
variable {i s1 s0 b1 b0 g m1 m0 l1 l0 : Byte}

/-- The ranges of Table 1-3 on the bytes of a LOAD CLASS. -/
def ClassBytesOk (s1 s0 b1 b0 g m1 m0 l1 l0 : Byte) : Prop :=
  500 ≤ word s1 s0 ∧ word s1 s0 ≤ 1000 ∧ 1 ≤ word b1 b0 ∧ word b1 b0 ≤ 2000 ∧ g.toNat ≤ 200 ∧ word b1 b0 ≤ word m1 m0 ∧
    word m1 m0 ≤ 20000 ∧ 30 ≤ word l1 l0

theorem parseClass_inside (h : ClassBytesOk s1 s0 b1 b0 g m1 m0 l1 l0) : parseClass [i, s1, s0, b1, b0, g, m1, m0, l1, l0] =
    some { slip0 := word s1 s0, band0 := word b1 b0, growth := g.toNat, bandMax := word m1 m0, stallLimit := word l1 l0 } := by
  obtain ⟨h1, h2, h3, h4, h5, h6, h7, h8⟩ := h
  refine if_pos ?_
  simp only [Bool.and_eq_true, decide_eq_true_eq]
  exact ⟨⟨⟨⟨⟨⟨⟨h1, h2⟩, h3⟩, h4⟩, h5⟩, h6⟩, h7⟩, h8⟩

theorem parseClass_outside (h : ¬ ClassBytesOk s1 s0 b1 b0 g m1 m0 l1 l0) :
    parseClass [i, s1, s0, b1, b0, g, m1, m0, l1, l0] = none := by
  refine if_neg fun ok => h ?_
  simp only [Bool.and_eq_true, decide_eq_true_eq] at ok
  obtain ⟨⟨⟨⟨⟨⟨⟨h1, h2⟩, h3⟩, h4⟩, h5⟩, h6⟩, h7⟩, h8⟩ := ok
  exact ⟨h1, h2, h3, h4, h5, h6, h7, h8⟩

end Class

theorem storeClass_outside {args : List Byte} {sh : Tables} (h : 7 < byteAt args 0 ∨ parseClass args = none) :
    storeClass args sh = none := by
  unfold storeClass
  split
  · rfl
  · next inside => rw [h.resolve_left inside]; rfl

theorem storeClass_inside {args : List Byte} {sh : Tables} {c : PigClass} (h : byteAt args 0 ≤ 7) (hp : parseClass args = some c) :
    storeClass args sh = some { sh with classes := sh.classes.set (byteAt args 0) (some c) } := by
  unfold storeClass
  rw [if_neg (not_lt.2 h), hp]
  rfl

section Program
variable {i kind trap first count : Byte}

theorem ProgramKind.ofCode_outside {n : Nat} (h : ¬ (n = 1 ∨ n = 2)) : ProgramKind.ofCode n = none := by
  unfold ProgramKind.ofCode
  split
  iterate 2 omega
  rfl

theorem parseProgram_of {k : ProgramKind} (hk : ProgramKind.ofCode kind.toNat = some k) :
    parseProgram [i, kind, trap, first, count] =
      if trap.toNat ≤ 63 && first.toNat ≤ 127 && 1 ≤ count.toNat && count.toNat ≤ 32 then
        some { kind := k, trap := trap.toNat, first := first.toNat, count := count.toNat } else none := by
  unfold parseProgram
  rw [show byteAt [i, kind, trap, first, count] 1 = kind.toNat from rfl, hk]
  rfl

theorem ProgramKind.of_byte (h : kind = 1 ∨ kind = 2) :
    ProgramKind.ofCode kind.toNat = some (if kind = 1 then .launch else .receive) := by
  obtain rfl | rfl := h <;> rfl

theorem parseProgram_inside (hk : kind = 1 ∨ kind = 2)
    (h : trap.toNat ≤ 63 ∧ first.toNat ≤ 127 ∧ 1 ≤ count.toNat ∧ count.toNat ≤ 32) :
    parseProgram [i, kind, trap, first, count] =
      some { kind := if kind = 1 then .launch else .receive, trap := trap.toNat, first := first.toNat, count := count.toNat } := by
  obtain ⟨h1, h2, h3, h4⟩ := h
  refine (parseProgram_of (ProgramKind.of_byte hk)).trans (if_pos ?_)
  simp only [Bool.and_eq_true, decide_eq_true_eq]
  exact ⟨⟨⟨h1, h2⟩, h3⟩, h4⟩

theorem parseProgram_outside
    (h : ¬ ((kind = 1 ∨ kind = 2) ∧ trap.toNat ≤ 63 ∧ first.toNat ≤ 127 ∧ 1 ≤ count.toNat ∧ count.toNat ≤ 32)) :
    parseProgram [i, kind, trap, first, count] = none := by
  by_cases hk : kind = 1 ∨ kind = 2
  · refine (parseProgram_of (ProgramKind.of_byte hk)).trans (if_neg fun ok => h ⟨hk, ?_⟩)
    simp only [Bool.and_eq_true, decide_eq_true_eq] at ok
    obtain ⟨⟨⟨h1, h2⟩, h3⟩, h4⟩ := ok
    exact ⟨h1, h2, h3, h4⟩
  · have code : ¬ (kind.toNat = 1 ∨ kind.toNat = 2) :=
      fun e => hk (e.imp (fun e => BitVec.eq_of_toNat_eq e) fun e => BitVec.eq_of_toNat_eq e)
    unfold parseProgram
    rw [show byteAt [i, kind, trap, first, count] 1 = kind.toNat from rfl, ProgramKind.ofCode_outside code]

end Program

theorem storeProgram_outside {args : List Byte} {sh : Tables} (h : 15 < byteAt args 0 ∨ parseProgram args = none) :
    storeProgram args sh = none := by
  unfold storeProgram
  split
  · rfl
  · next inside => rw [h.resolve_left inside]; rfl

theorem storeProgram_inside {args : List Byte} {sh : Tables} {p : Program} (h : byteAt args 0 ≤ 15)
    (hp : parseProgram args = some p) : storeProgram args sh =
      some { sh with seq := { sh.seq with programs := sh.seq.programs.set (byteAt args 0) (some p) } } := by
  unfold storeProgram
  rw [if_neg (not_lt.2 h), hp]
  rfl

section Step
variable {i action point v1 v0 t1 t0 cont : Byte}

theorem Action.ofCode_action (a : Action) : Action.ofCode a.code = some a := by cases a <;> rfl

theorem Action.ofCode_outside {n : Nat} (h : n = 0 ∨ 10 < n) : Action.ofCode n = none := by
  unfold Action.ofCode
  split
  iterate 10 omega
  rfl

theorem Action.valueLimit_iff {a : Action} {v : Nat} (h : v < 65536) :
    v ≤ a.valueLimit ↔ (a = .dwell → v ≤ 7200) ∧ (a = .awaitApproach → v ≤ 50000) := by
  have h' : v ≤ 65535 := by omega
  cases a <;> simp [Action.valueLimit, h']

theorem word_lt (hi lo : Byte) : word hi lo < 65536 := by
  have h := hi.isLt
  have l := lo.isLt
  unfold word
  omega

theorem parseStep_unknown (h : Action.ofCode action.toNat = none ∨ flagOfCode cont.toNat = none) :
    parseStep [i, action, point, v1, v0, t1, t0, cont] = none := by
  unfold parseStep
  rw [show byteAt [i, action, point, v1, v0, t1, t0, cont] 1 = action.toNat from rfl,
    show byteAt [i, action, point, v1, v0, t1, t0, cont] 7 = cont.toNat from rfl]
  obtain h | h := h
  · rw [h]
  · rw [h]
    cases Action.ofCode action.toNat <;> rfl

theorem parseStep_of {a : Action} (ha : action.toNat = a.code) (hc : cont.toNat ≤ 1) :
    parseStep [i, action, point, v1, v0, t1, t0, cont] =
      if (point.toNat ≤ 63 || point.toNat = 255) && word t1 t0 ≤ 7200 && word v1 v0 ≤ a.valueLimit then
        some { action := a, operand := indexOfByte point.toNat, value := word v1 v0, timeout := word t1 t0
               continueOn := decide (cont = 1) } else none := by
  unfold parseStep
  rw [show byteAt [i, action, point, v1, v0, t1, t0, cont] 1 = action.toNat from rfl,
    show byteAt [i, action, point, v1, v0, t1, t0, cont] 7 = cont.toNat from rfl, ha, Action.ofCode_action, flagOfCode_byte hc]
  rfl

/-- The ranges of Table 6-2 on the bytes of a LOAD STEP of an action. -/
def StepBytesOk (a : Action) (point v1 v0 t1 t0 cont : Byte) : Prop :=
  (point.toNat ≤ 63 ∨ point = 255) ∧ word t1 t0 ≤ 7200 ∧ cont.toNat ≤ 1 ∧ (a = .dwell → word v1 v0 ≤ 7200) ∧
    (a = .awaitApproach → word v1 v0 ≤ 50000)

theorem byte_eq_255 {b : Byte} : b = 255 ↔ b.toNat = 255 := byte_eq_iff (by decide)

theorem parseStep_inside {a : Action} (ha : action.toNat = a.code) (h : StepBytesOk a point v1 v0 t1 t0 cont) :
    parseStep [i, action, point, v1, v0, t1, t0, cont] =
      some { action := a, operand := if point = 255 then none else some point.toNat, value := word v1 v0
             timeout := word t1 t0, continueOn := decide (cont = 1) } := by
  obtain ⟨hp, ht, hc, hv⟩ := h
  refine (parseStep_of ha hc).trans ((if_pos ?_).trans ?_)
  · simp only [Bool.and_eq_true, Bool.or_eq_true, decide_eq_true_eq, Action.valueLimit_iff (word_lt v1 v0)]
    exact ⟨⟨hp.imp_right byte_eq_255.1, ht⟩, hv⟩
  · simp only [indexOfByte, byte_eq_255]

theorem parseStep_outside {a : Action} (ha : action.toNat = a.code) (h : ¬ StepBytesOk a point v1 v0 t1 t0 cont) :
    parseStep [i, action, point, v1, v0, t1, t0, cont] = none := by
  rcases lt_or_ge 1 cont.toNat with hc | hc
  · exact parseStep_unknown (.inr (flagOfCode_outside hc))
  · refine (parseStep_of ha hc).trans (if_neg fun ok => h ?_)
    simp only [Bool.and_eq_true, Bool.or_eq_true, decide_eq_true_eq, Action.valueLimit_iff (word_lt v1 v0)] at ok
    obtain ⟨⟨hp, ht⟩, hv⟩ := ok
    exact ⟨hp.imp_right byte_eq_255.2, ht, hc, hv⟩

end Step

theorem storeStep_outside {args : List Byte} {sh : Tables} (h : 127 < byteAt args 0 ∨ parseStep args = none) :
    storeStep args sh = none := by
  unfold storeStep
  split
  · rfl
  · next inside => rw [h.resolve_left inside]; rfl

theorem storeStep_inside {args : List Byte} {sh : Tables} {r : StepRec} (h : byteAt args 0 ≤ 127) (hp : parseStep args = some r) :
    storeStep args sh = some { sh with seq := { sh.seq with steps := sh.seq.steps.set (byteAt args 0) (some r) } } := by
  unfold storeStep
  rw [if_neg (not_lt.2 h), hp]
  rfl

section Watch
variable {i enabled node mask k1 k0 dir act : Byte}

theorem WatchDir.ofCode_dir (d : WatchDir) : WatchDir.ofCode d.code = some d := by cases d <;> rfl

theorem WatchDir.ofCode_outside {n : Nat} (h : 2 < n) : WatchDir.ofCode n = none := by
  unfold WatchDir.ofCode
  split
  iterate 3 omega
  rfl

theorem WatchDir.exists_code {n : Nat} (h : n ≤ 2) : ∃ d : WatchDir, n = d.code := by
  obtain rfl | rfl | rfl : n = 0 ∨ n = 1 ∨ n = 2 := by omega
  · exact ⟨.down, rfl⟩
  · exact ⟨.up, rfl⟩
  · exact ⟨.either, rfl⟩

theorem parseWatch_of {d : WatchDir} (he : enabled.toNat ≤ 1) (hd : dir.toNat = d.code) (ha : act.toNat ≤ 1) :
    parseWatch [i, enabled, node, mask, k1, k0, dir, act] =
      if node.toNat ≤ 127 && mask.toNat ≤ 127 && word k1 k0 ≤ 256 then
        some { enabled := decide (enabled = 1), node := node.toNat, mask := mask.toNat
               kind := if word k1 k0 = 256 then none else some (word k1 k0), dir := d, freeze := decide (act = 1) }
      else none := by
  unfold parseWatch
  rw [show byteAt [i, enabled, node, mask, k1, k0, dir, act] 1 = enabled.toNat from rfl,
    show byteAt [i, enabled, node, mask, k1, k0, dir, act] 6 = dir.toNat from rfl,
    show byteAt [i, enabled, node, mask, k1, k0, dir, act] 7 = act.toNat from rfl, flagOfCode_byte he, hd, WatchDir.ofCode_dir,
    flagOfCode_byte ha]
  rfl

theorem parseWatch_outside (h : 2 < dir.toNat ∨
    ¬ (enabled.toNat ≤ 1 ∧ node.toNat ≤ 127 ∧ mask.toNat ≤ 127 ∧ word k1 k0 ≤ 256 ∧ act.toNat ≤ 1)) :
    parseWatch [i, enabled, node, mask, k1, k0, dir, act] = none := by
  rcases lt_or_ge 1 enabled.toNat with he | he
  · unfold parseWatch
    rw [show byteAt [i, enabled, node, mask, k1, k0, dir, act] 1 = enabled.toNat from rfl, flagOfCode_outside he]
  rcases lt_or_ge 2 dir.toNat with hd | hd
  · unfold parseWatch
    rw [show byteAt [i, enabled, node, mask, k1, k0, dir, act] 6 = dir.toNat from rfl, WatchDir.ofCode_outside hd]
    cases flagOfCode (byteAt [i, enabled, node, mask, k1, k0, dir, act] 1) <;> rfl
  obtain ⟨d, hd⟩ := WatchDir.exists_code hd
  rcases lt_or_ge 1 act.toNat with ha | ha
  · unfold parseWatch
    rw [show byteAt [i, enabled, node, mask, k1, k0, dir, act] 1 = enabled.toNat from rfl,
      show byteAt [i, enabled, node, mask, k1, k0, dir, act] 6 = dir.toNat from rfl,
      show byteAt [i, enabled, node, mask, k1, k0, dir, act] 7 = act.toNat from rfl, flagOfCode_byte he, hd,
      WatchDir.ofCode_dir, flagOfCode_outside ha]
  have out := h.resolve_left (by rw [hd]; cases d <;> decide)
  refine (parseWatch_of he hd ha).trans (if_neg fun ok => out ?_)
  simp only [Bool.and_eq_true, decide_eq_true_eq] at ok
  obtain ⟨⟨hn, hm⟩, hk⟩ := ok
  exact ⟨he, hn, hm, hk, ha⟩

end Watch

theorem serveLoadWatch_outside {args : List Byte} (h : 7 < byteAt args 0 ∨ parseWatch args = none) :
    serveLoadWatch args s = refuse stOutOfRange s := by
  unfold serveLoadWatch
  split
  · rfl
  · next inside => rw [h.resolve_left inside]

theorem serveLoadWatch_inside {args : List Byte} {w : WatchEntry} (h : byteAt args 0 ≤ 7) (hp : parseWatch args = some w) :
    serveLoadWatch args s = served [] (s.setWatch (s.tables.watch.set (byteAt args 0) w)) := by
  unfold serveLoadWatch
  rw [if_neg (not_lt.2 h), hp]

/-! ### Points (Tables 1-1 and 1-2) -/

section Points
variable {bs : List Byte} {i : Byte}

theorem parsePoint_outside (h : pointNode (byteAt bs 0) (byteAt bs 5) = none ∨ flagOfCode (byteAt bs 6) = none ∨
    parsePart (byteAt bs 0) bs = none ∨ 400000 < be32 bs 1 ∨ (byteAt bs 0 ≠ 5 ∧ parseStretch bs = none)) :
    parsePoint bs = none := by
  unfold parsePoint
  dsimp only
  split
  · next node sup part hn hf hp =>
    rw [hn, hf, hp] at h
    obtain h | h | h | h | ⟨hk, hs⟩ := h
    · cases h
    · cases h
    · cases h
    · exact if_pos h
    · rw [if_neg hk, hs]
      exact ite_self none
  · rfl

theorem parsePoint_inside {node : Option Nat} {sup : Bool} {part : Part} {stretch : Option Stretch}
    (hn : pointNode (byteAt bs 0) (byteAt bs 5) = some node) (hf : flagOfCode (byteAt bs 6) = some sup)
    (hp : parsePart (byteAt bs 0) bs = some part) (hc : be32 bs 1 ≤ 400000)
    (hs : if byteAt bs 0 = 5 then stretch = none else ∃ st, parseStretch bs = some st ∧ stretch = some st) :
    parsePoint bs =
      some { chainage := be32 bs 1, node := node, supervise := sup && node.isSome, stretch := stretch, part := part } := by
  unfold parsePoint
  dsimp only
  rw [hn, hf, hp]
  dsimp only
  rw [if_neg (not_lt.2 hc)]
  split at hs
  · next hk => rw [if_pos hk, hs]
  · next hk =>
    obtain ⟨st, hst, rfl⟩ := hs
    rw [if_neg hk, hst]

theorem pointNode_inside {kind n : Nat} (hn : n ≤ 126) (h : 2 ≤ kind → kind ≤ 4 → n ≠ 0) (hk : 1 ≤ kind ∧ kind ≤ 5) :
    pointNode kind n = some (if kind = 5 ∨ n = 0 then none else some n) := by
  unfold pointNode
  rw [if_neg (by omega)]
  by_cases h5 : kind = 5
  · rw [if_pos h5, if_pos (.inl h5)]
  by_cases h0 : n = 0
  · have : kind = 1 := by by_contra; exact h (by omega) (by omega) h0
    rw [if_neg h5, if_pos h0, if_pos this, if_pos (.inr h0)]
  · rw [if_neg h5, if_neg h0, if_neg (by omega)]

theorem pointNode_outside {kind n : Nat} (h : 126 < n ∨ (2 ≤ kind ∧ kind ≤ 4 ∧ n = 0)) : pointNode kind n = none := by
  unfold pointNode
  by_cases hn : 127 ≤ n
  · exact if_pos hn
  obtain ⟨h2, h4, h0⟩ := h.resolve_left (by omega)
  rw [if_neg hn, if_neg (by omega), if_pos h0, if_neg (by omega)]

/-- A byte is a point index or 255 (Table 1-2). -/
def IndexByte (n : Nat) : Prop := n ≤ 63 ∨ n = 255

/-- The ranges of a stretch. -/
def StretchBytesOk (bs : List Byte) : Prop :=
  (100 ≤ be16 bs 7 ∧ be16 bs 7 ≤ 20000) ∧ (100 ≤ be16 bs 9 ∧ be16 bs 9 ≤ 8000) ∧ IndexByte (byteAt bs 11)

theorem parseStretch_inside (h : StretchBytesOk bs) :
    parseStretch bs = some { bore := be16 bs 7, umax := be16 bs 9, source := indexOfByte (byteAt bs 11) } := by
  obtain ⟨⟨h1, h2⟩, ⟨h3, h4⟩, h5⟩ := h
  refine if_pos ?_
  rw [Bool.and_eq_true, Bool.and_eq_true, Bool.and_eq_true, Bool.and_eq_true]
  simp only [decide_eq_true_eq, Bool.or_eq_true]
  exact ⟨⟨⟨⟨h1, h2⟩, h3⟩, h4⟩, h5⟩

theorem parseStretch_outside (h : ¬ StretchBytesOk bs) : parseStretch bs = none := by
  refine if_neg fun ok => h ?_
  rw [Bool.and_eq_true, Bool.and_eq_true, Bool.and_eq_true, Bool.and_eq_true] at ok
  simp only [decide_eq_true_eq, Bool.or_eq_true] at ok
  obtain ⟨⟨⟨⟨h1, h2⟩, h3⟩, h4⟩, h5⟩ := ok
  exact ⟨⟨h1, h2⟩, ⟨h3, h4⟩, h5⟩

theorem TrapRole.ofCode_outside {n : Nat} (h : ¬ (1 ≤ n ∧ n ≤ 3)) : TrapRole.ofCode n = none := by
  unfold TrapRole.ofCode
  split
  iterate 3 omega
  rfl

theorem ValveRole.ofCode_outside {n : Nat} (h : ¬ (1 ≤ n ∧ n ≤ 5)) : ValveRole.ofCode n = none := by
  unfold ValveRole.ofCode
  split
  iterate 5 omega
  rfl

/-- The ranges of a VALVE's fields after its role. -/
def ValveBytesOk (bs : List Byte) : Prop :=
  be16 bs 13 ≤ 5000 ∧ be16 bs 15 ≤ 500 ∧ (5 ≤ be16 bs 17 ∧ be16 bs 17 ≤ 900) ∧ IndexByte (byteAt bs 19)

theorem parsePart_valve {role : ValveRole} (hr : ValveRole.ofCode (byteAt bs 12) = some role) (h : ValveBytesOk bs) :
    parsePart 2 bs = some (.valve { role := role, approach := be16 bs 13, clearance := be16 bs 15, travel := be16 bs 17
                                    trapRef := if role = .mainline then none else indexOfByte (byteAt bs 19) }) := by
  obtain ⟨h1, h2, ⟨h3, h4⟩, h5⟩ := h
  show (match ValveRole.ofCode (byteAt bs 12) with
    | none => _
    | some role => _) = _
  rw [hr]
  refine if_pos ?_
  rw [Bool.and_eq_true, Bool.and_eq_true, Bool.and_eq_true, Bool.and_eq_true]
  simp only [decide_eq_true_eq, Bool.or_eq_true]
  exact ⟨⟨⟨⟨h1, h2⟩, h3⟩, h4⟩, h5⟩

theorem parsePart_valve_outside (h : ¬ ((1 ≤ byteAt bs 12 ∧ byteAt bs 12 ≤ 5) ∧ ValveBytesOk bs)) : parsePart 2 bs = none := by
  show (match ValveRole.ofCode (byteAt bs 12) with
    | none => _
    | some role => _) = _
  by_cases hr : 1 ≤ byteAt bs 12 ∧ byteAt bs 12 ≤ 5
  · cases ValveRole.ofCode (byteAt bs 12) with
    | none => rfl
    | some role =>
      refine if_neg fun ok => h ⟨hr, ?_⟩
      rw [Bool.and_eq_true, Bool.and_eq_true, Bool.and_eq_true, Bool.and_eq_true] at ok
      simp only [decide_eq_true_eq, Bool.or_eq_true] at ok
      obtain ⟨⟨⟨⟨h1, h2⟩, h3⟩, h4⟩, h5⟩ := ok
      exact ⟨h1, h2, ⟨h3, h4⟩, h5⟩
  · rw [ValveRole.ofCode_outside hr]

theorem parsePart_detector (h : byteAt bs 12 ≤ 3 ∧ be16 bs 13 ≤ 600) :
    parsePart 3 bs = some (.detector (byteAt bs 12) (be16 bs 13)) :=
  if_pos (by simpa only [Bool.and_eq_true, decide_eq_true_eq] using h)

theorem parsePart_detector_outside (h : ¬ (byteAt bs 12 ≤ 3 ∧ be16 bs 13 ≤ 600)) : parsePart 3 bs = none :=
  if_neg (by simpa only [Bool.and_eq_true, decide_eq_true_eq] using h)

theorem parsePart_unknown {kind : Nat} (h : ¬ (1 ≤ kind ∧ kind ≤ 5)) : parsePart kind bs = none := by
  unfold parsePart
  split
  iterate 5 omega
  rfl

/-- The ranges of the fields of a kind of point. -/
def PartBytesOk (kind : Nat) (bs : List Byte) : Prop :=
  (kind = 1 → 1 ≤ byteAt bs 12 ∧ byteAt bs 12 ≤ 3) ∧
  (kind = 2 → (1 ≤ byteAt bs 12 ∧ byteAt bs 12 ≤ 5) ∧ ValveBytesOk bs) ∧
  (kind = 3 → byteAt bs 12 ≤ 3 ∧ be16 bs 13 ≤ 600) ∧ (kind = 4 → be16 bs 12 ≤ 600)

theorem parsePart_outside {kind : Nat} (h : ¬ PartBytesOk kind bs) : parsePart kind bs = none := by
  simp only [PartBytesOk, not_and_or, Classical.not_imp] at h
  obtain ⟨rfl, h⟩ | ⟨rfl, h⟩ | ⟨rfl, h⟩ | ⟨rfl, h⟩ := h
  · exact congrArg (Option.map Part.trap) (TrapRole.ofCode_outside (not_and_or.2 h))
  · exact parsePart_valve_outside (not_and_or.2 (h.imp_left not_and_or.2))
  · exact parsePart_detector_outside (not_and_or.2 h)
  · exact if_neg h

/-- The ranges of Tables 1-1 and 1-2 on the bytes of a point (END point's node byte: log entry 21). -/
def PointBytesOk (bs : List Byte) : Prop :=
  (1 ≤ byteAt bs 0 ∧ byteAt bs 0 ≤ 5) ∧ be32 bs 1 ≤ 400000 ∧ byteAt bs 5 ≤ 126 ∧
    (2 ≤ byteAt bs 0 → byteAt bs 0 ≤ 4 → byteAt bs 5 ≠ 0) ∧ byteAt bs 6 ≤ 1 ∧ (byteAt bs 0 ≤ 4 → StretchBytesOk bs) ∧
    PartBytesOk (byteAt bs 0) bs

theorem parsePoint_none (h : ¬ PointBytesOk bs) : parsePoint bs = none := by
  by_contra some
  have fits (out : pointNode (byteAt bs 0) (byteAt bs 5) = none ∨ flagOfCode (byteAt bs 6) = none ∨
      parsePart (byteAt bs 0) bs = none ∨ 400000 < be32 bs 1 ∨ (byteAt bs 0 ≠ 5 ∧ parseStretch bs = none)) : False :=
    some (parsePoint_outside out)
  refine h ⟨?_, ?_, ?_, fun h2 h4 h0 => ?_, ?_, fun h4 => ?_, ?_⟩
  · by_contra out
    exact fits (.inr (.inr (.inl (parsePart_unknown out))))
  · by_contra out
    exact fits (.inr (.inr (.inr (.inl (not_le.1 out)))))
  · by_contra out
    exact fits (.inl (pointNode_outside (.inl (not_le.1 out))))
  · exact fits (.inl (pointNode_outside (.inr ⟨h2, h4, h0⟩)))
  · by_contra out
    exact fits (.inr (.inl (flagOfCode_outside (not_le.1 out))))
  · by_contra out
    exact fits (.inr (.inr (.inr (.inr ⟨by omega, parseStretch_outside out⟩))))
  · by_contra out
    exact fits (.inr (.inr (.inl (parsePart_outside out))))

theorem parsePoint_some (h : PointBytesOk bs) {part : Part} (hp : parsePart (byteAt bs 0) bs = some part) {node : Option Nat}
    (hn : node = if byteAt bs 0 = 5 ∨ byteAt bs 5 = 0 then none else some (byteAt bs 5)) :
    parsePoint bs = some
      { chainage := be32 bs 1, node := node, supervise := decide (byteAt bs 6 = 1 ∧ node ≠ none)
        stretch := if byteAt bs 0 = 5 then none else
          some { bore := be16 bs 7, umax := be16 bs 9, source := indexOfByte (byteAt bs 11) }
        part := part } := by
  obtain ⟨hk, hc, h126, h0, hf, hs, -⟩ := h
  have sup : decide (byteAt bs 6 = 1 ∧ node ≠ none) = (decide (byteAt bs 6 = 1) && node.isSome) := by
    rw [Bool.decide_and]
    cases node <;> rfl
  rw [sup]
  refine parsePoint_inside ((pointNode_inside h126 h0 hk).trans (congrArg some hn.symm)) (flagOfCode_inside hf) hp hc ?_
  split
  · rfl
  · exact ⟨_, parseStretch_inside (hs (by omega)), rfl⟩

theorem pointLengthOk_of (hl : 7 ≤ bs.length) (h1 : byteAt bs 0 = 1 → bs.length = 13) (h2 : byteAt bs 0 = 2 → bs.length = 20)
    (h3 : byteAt bs 0 = 3 → bs.length = 15) (h4 : byteAt bs 0 = 4 → bs.length = 14) (h5 : byteAt bs 0 = 5 → bs.length = 7) :
    pointLengthOk (i :: bs) = true := by
  unfold pointLengthOk
  rw [show byteAt (i :: bs) 1 = byteAt bs 0 from rfl, List.length_cons, Bool.and_eq_true]
  refine ⟨decide_eq_true (by omega), ?_⟩
  unfold pointArgLength
  split
  · next e => exact beq_iff_eq.2 (by split at e <;> simp only [Option.some.injEq, reduceCtorEq] at e <;> omega)
  · rfl

theorem storePoint_outside {sh : Tables} (h : 63 < i.toNat ∨ sh.lineMap.length < i.toNat ∨ parsePoint bs = none) :
    storePoint (i :: bs) sh = none := by
  unfold storePoint
  dsimp only
  split
  · rfl
  · next inside =>
    rw [show (i :: bs).drop 1 = bs from rfl, (h.resolve_left fun e => inside (.inl e)).resolve_left fun e => inside (.inr e)]

theorem storePoint_inside {sh : Tables} {p : Point} (h : i.toNat ≤ 63) (hl : i.toNat ≤ sh.lineMap.length)
    (hp : parsePoint bs = some p) : storePoint (i :: bs) sh =
      some { sh with lineMap := if i.toNat < sh.lineMap.length then sh.lineMap.set i.toNat p else sh.lineMap ++ [p] } := by
  unfold storePoint
  rw [show (i :: bs).drop 1 = bs from rfl, hp]
  exact if_neg (show ¬ (63 < i.toNat ∨ sh.lineMap.length < i.toNat) by omega)

end Points

/-- Settles O44. Each load parses its record exactly in the ranges of its table and then stores it; a point is parsed kind by
kind. -/
theorem loadsFillTheShadow : Obligations.LoadsFillTheShadow := by
  unfold Obligations.LoadsFillTheShadow
  refine ⟨?point, ?cls, ?program, ?step, ?watch⟩
  case point =>
    intro q i bs s h hl at_ two kind h1 h2 h3 h4 h5 chainage index indexed inRange node role record points stored
    have length : pointLengthOk (i :: bs) = true := pointLengthOk_of hl h1 h2 h3 h4 h5
    have chained : be32 bs 1 = chainage := by
      show (at_ 1 * 256 + at_ 2) * 65536 + (at_ 3 * 256 + at_ 4) = ((at_ 1 * 256 + at_ 2) * 256 + at_ 3) * 256 + at_ 4
      omega
    have inRange_iff : inRange ↔ PointBytesOk bs := by
      unfold PointBytesOk
      rw [chained]
      exact .rfl
    have outside (out : ¬ inRange) : parsePoint bs = none := parsePoint_none (mt inRange_iff.2 out)
    have inside (ok : inRange) : parsePoint bs = some record := by
      have parsed {part : Part} := parsePoint_some (part := part) (node := node) (inRange_iff.1 ok) (hn := rfl)
      obtain ⟨hk, -, -, -, -, -, trap, valve, detector, meter⟩ := ok
      have parts : parsePart kind bs = some record.part := by
        obtain e | e | e | e | e : kind = 1 ∨ kind = 2 ∨ kind = 3 ∨ kind = 4 ∨ kind = 5 := by omega
        · obtain r | r | r : at_ 12 = 1 ∨ at_ 12 = 2 ∨ at_ 12 = 3 := by have := trap e; omega
          all_goals
            simp only [record, e, r]
            exact congrArg (fun n => (TrapRole.ofCode n).map Part.trap) r
        · obtain ⟨range, fields⟩ := valve e
          have named : ValveRole.ofCode (at_ 12) = some role := by
            obtain r | r | r | r | r : at_ 12 = 1 ∨ at_ 12 = 2 ∨ at_ 12 = 3 ∨ at_ 12 = 4 ∨ at_ 12 = 5 := by omega
            all_goals simp only [role, r, ValveRole.ofCode]
          simp only [record, e]
          exact parsePart_valve named fields
        · simp only [record, e]
          exact parsePart_detector (detector e)
        · simp only [record, e]
          exact if_pos (meter e)
        · simp only [record, e]
          rfl
      rw [parsed parts, chained]
      rfl
    have stores (hi : i.toNat ≤ points.length) (h63 : i.toNat ≤ 63) (ok : inRange)
        (hp : s.tables.pendingCommit ≠ some .lineMap) :
        stored (if i.toNat < points.length then points.set i.toNat record else points ++ [record]) :=
      request_answers (body := serveLoadPoint) h (by decide) length
        (loadShadow_stored hp (storePoint_inside h63 hi (inside ok))) rfl
    refine ⟨fun hp => request_refused (body := serveLoadPoint) h (by decide) length (loadShadow_pending hp),
      fun hp => ⟨fun out => ?_, fun h63 ok => ⟨fun hi => ?_, fun hi => ?_⟩⟩⟩
    · exact request_refused (body := serveLoadPoint) h (by decide) length
        (loadShadow_refused hp (storePoint_outside (out.imp_right (Or.imp_right outside))))
    · have done := stores (le_of_lt hi) h63 ok hp
      rwa [if_pos hi] at done
    · have done := stores (le_of_eq hi) h63 ok hp
      rwa [if_neg (by omega)] at done
  case cls =>
    intro q i s1 s0 b1 b0 g m1 m0 l1 l0 s h slip band0 bandMax limit ok
    refine ⟨fun hp => request_refused (body := serveLoadClass) h (by decide) rfl (loadShadow_pending hp), fun hp out => ?_,
      fun hp ⟨hi, ok⟩ => ?_⟩
    · refine request_refused (body := serveLoadClass) h (by decide) rfl (loadShadow_refused hp (storeClass_outside ?_))
      rcases lt_or_ge 7 i.toNat with hi | hi
      · exact .inl hi
      · exact .inr (parseClass_outside fun inside => out ⟨hi, inside⟩)
    · exact request_answers (body := serveLoadClass) h (by decide) rfl
        (loadShadow_stored hp (storeClass_inside hi (parseClass_inside ok))) rfl
  case program =>
    intro q i kind trap first count s h ok record programs
    refine ⟨fun hp => request_refused (body := serveLoadProgram) h (by decide) rfl (loadShadow_pending hp), fun hp out => ?_,
      fun hp ⟨hi, hk, ok⟩ => ?_⟩
    · refine request_refused (body := serveLoadProgram) h (by decide) rfl (loadShadow_refused hp (storeProgram_outside ?_))
      rcases lt_or_ge 15 i.toNat with hi | hi
      · exact .inl hi
      · exact .inr (parseProgram_outside fun inside => out ⟨hi, inside⟩)
    · exact request_answers (body := serveLoadProgram) h (by decide) rfl
        (loadShadow_stored hp (storeProgram_inside hi (parseProgram_inside hk ok))) rfl
  case step =>
    intro q i action point v1 v0 t1 t0 cont a s h value timeout ok record steps
    have refuses (hp : s.tables.pendingCommit ≠ some .sequence)
        (out : 127 < i.toNat ∨ parseStep [i, action, point, v1, v0, t1, t0, cont] = none) :
        exec .loadStep s = .next (s.answered q 13 4 []) :=
      request_refused (body := serveLoadStep) h (by decide) rfl (loadShadow_refused hp (storeStep_outside out))
    refine ⟨fun hp => request_refused (body := serveLoadStep) h (by decide) rfl (loadShadow_pending hp),
      fun hp unknown => refuses hp (.inr (parseStep_unknown (.inl (Action.ofCode_outside ?_)))), fun hp ha out => refuses hp ?_,
      fun hp ha ⟨hi, ok⟩ => ?_⟩
    · exact unknown.imp_left fun e => by rw [e]; rfl
    · rcases lt_or_ge 127 i.toNat with hi | hi
      · exact .inl hi
      · exact .inr (parseStep_outside ha fun inside => out ⟨hi, inside⟩)
    · exact request_answers (body := serveLoadStep) h (by decide) rfl
        (loadShadow_stored hp (storeStep_inside hi (parseStep_inside ha ok))) rfl
  case watch =>
    intro q i enabled node mask k1 k0 dir act d s h kind record ok
    refine ⟨fun out => request_refused (body := serveLoadWatch) h (by decide) rfl (serveLoadWatch_outside ?_),
      fun hd ⟨hi, he, hn, hm, hk, ha⟩ => ?_⟩
    · rcases lt_or_ge 7 i.toNat with hi | hi
      · exact .inl hi
      · exact .inr (parseWatch_outside (out.imp_right fun out inside => out ⟨hi, inside⟩))
    · refine request_answers (body := serveLoadWatch) h (by decide) rfl
        (serveLoadWatch_inside hi ((parseWatch_of he hd ha).trans (if_pos ?_))) rfl
      simp only [Bool.and_eq_true, decide_eq_true_eq]
      exact ⟨⟨hn, hm⟩, hk⟩

end Sys2Proof.Machine
end

section
/-! PROOF. The validation of the three tables (O25). -/

namespace Sys2Proof.Machine

/-! ### The index that a check reports -/

/-- A check reports the least index at which it fails. -/
def FindsLeast (o : Option Nat) (F : Nat → Prop) : Prop := ∀ i, o = some i ↔ F i ∧ ∀ j, j < i → ¬ F j

theorem FindsLeast.congr {o : Option Nat} {F G : Nat → Prop} (h : FindsLeast o F) (e : ∀ i, F i ↔ G i) : FindsLeast o G := by
  intro i
  rw [h i, e i]
  exact and_congr_right fun _ => forall_congr' fun j => by rw [e j]

theorem FindsLeast.none_iff {o : Option Nat} {F : Nat → Prop} (h : FindsLeast o F) : o = none ↔ ∀ i, ¬ F i := by
  classical
  refine ⟨fun e => ?_, fun never => ?_⟩
  · by_contra some
    have fails : ∃ i, F i := by simpa using some
    have := (h (Nat.find fails)).2 ⟨Nat.find_spec fails, fun j hj => Nat.find_min fails hj⟩
    rw [e] at this
    cases this
  · cases o with
    | none => rfl
    | some i => exact absurd ((h i).1 rfl).1 (never i)

theorem findsLeast_range {n : Nat} {p : Nat → Bool} {F : Nat → Prop} (h : ∀ i, F i ↔ i < n ∧ p i = true) :
    FindsLeast ((List.range n).find? p) F := by
  intro i
  rw [List.find?_range_eq_some, List.mem_range, h]
  constructor
  · rintro ⟨hp, hi, least⟩
    exact ⟨⟨hi, hp⟩, fun j hj fails => by simpa [((h j).1 fails).2] using least j hj⟩
  · rintro ⟨⟨hi, hp⟩, least⟩
    refine ⟨hp, hi, fun j hj => ?_⟩
    simpa using fun e => least j hj ((h j).2 ⟨by omega, e⟩)

theorem findsLeast_const {P : Prop} [Decidable P] {k : Nat} : FindsLeast (if P then some k else none) (fun i => P ∧ i = k) := by
  intro i
  split
  · next hp =>
    rw [Option.some.injEq]
    exact ⟨fun e => ⟨⟨hp, e.symm⟩, fun j hj fails => absurd fails.2 (by omega)⟩, fun fails => fails.1.2.symm⟩
  · next hp => exact ⟨nofun, fun fails => absurd fails.1.1 hp⟩

/-- Every check reports its least index, each under the checks before it. -/
def Checks (F : Nat → Nat → Prop) : List (Nat × Option Nat) → Prop
  | [] => True
  | (c, o) :: rest => FindsLeast o (F c) ∧ ((∀ i, ¬ F c i) → Checks F rest)

/-- What the first failing check of a table reports, when every index at which a check fails is below 256. -/
theorem firstError_reports {F : Nat → Nat → Prop} (bound : ∀ c i, F c i → i < 256) {cs : List (Nat × Option Nat)}
    (hc : Checks F cs) (rising : (cs.map Prod.fst).Pairwise (· < ·)) :
    (firstError cs = none ↔ ∀ c ∈ cs.map Prod.fst, ∀ i, i < 256 → ¬ F c i) ∧
    ∀ c i, firstError cs = some (c, i) ↔
      (c ∈ cs.map Prod.fst ∧ F c i) ∧ (∀ j, j < i → ¬ F c j) ∧
        ∀ b ∈ cs.map Prod.fst, b < c → ∀ j, j < 256 → ¬ F b j := by
  induction cs with
  | nil => exact ⟨⟨fun _ => nofun, fun _ => rfl⟩, fun _ _ => ⟨nofun, fun h => absurd h.1.1 List.not_mem_nil⟩⟩
  | cons x rest ih =>
    obtain ⟨c0, o⟩ := x
    obtain ⟨least, more⟩ := hc
    rw [List.map_cons, List.pairwise_cons] at rising
    obtain ⟨later, rising⟩ := rising
    rw [List.map_cons]
    cases o with
    | none =>
      have passes := least.none_iff.1 rfl
      obtain ⟨none, some⟩ := ih (more passes) rising
      refine ⟨none.trans ?_, fun c i => (some c i).trans ?_⟩
      · rw [List.forall_mem_cons]
        exact (and_iff_right fun i _ => passes i).symm
      · rw [List.mem_cons, List.forall_mem_cons]
        constructor
        · rintro ⟨⟨hc, fails⟩, before, earlier⟩
          exact ⟨⟨.inr hc, fails⟩, before, fun _ j _ => passes j, earlier⟩
        · rintro ⟨⟨hc, fails⟩, before, -, earlier⟩
          exact ⟨⟨hc.resolve_left fun e : c = c0 => passes i (e ▸ fails), fails⟩, before, earlier⟩
    | some k =>
      obtain ⟨fails, before⟩ := (least k).1 rfl
      refine ⟨⟨nofun, fun h => absurd fails (h c0 List.mem_cons_self k (bound c0 k fails))⟩, fun c i => ?_⟩
      show some (c0, k) = some (c, i) ↔ _
      rw [Option.some.injEq, Prod.mk.injEq]
      constructor
      · rintro ⟨rfl, rfl⟩
        refine ⟨⟨List.mem_cons_self, fails⟩, before, fun b hb lt => ?_⟩
        obtain e | hb := List.mem_cons.1 hb
        · omega
        · have := later b hb
          omega
      · rintro ⟨⟨hc, fails'⟩, before', earlier⟩
        obtain rfl | hc := List.mem_cons.1 hc
        · refine ⟨rfl, ?_⟩
          by_contra ne
          rcases lt_or_gt_of_ne ne with lt | lt
          · exact before' k lt fails
          · exact before i lt fails'
        · exact absurd fails (earlier c0 List.mem_cons_self (later c hc) k (bound c0 k fails))

/-! ### The checks of a Line Map (Table 1-4) -/

section Map
variable {m : List Point}

theorem getElem?_elim_eq_true {p : Point → Bool} {i : Nat} :
    (m[i]?).elim false p = true ↔ ∃ x, m[i]? = some x ∧ p x = true := by
  cases m[i]? with
  | none => exact ⟨nofun, fun ⟨_, e, _⟩ => nomatch e⟩
  | some x => exact ⟨fun h => ⟨x, rfl, h⟩, fun ⟨_, e, h⟩ => by cases e; exact h⟩

theorem lt_of_getElem?_eq_some {i : Nat} {x : Point} (h : m[i]? = some x) : i < m.length :=
  (List.getElem?_eq_some_iff.1 h).1

theorem mapEmpty_findsLeast : FindsLeast (mapEmpty m) (fun i => m.length = 0 ∧ i = 255) := findsLeast_const

theorem mapFirstPoint_findsLeast : FindsLeast (mapFirstPoint m)
    (fun i => i = 0 ∧ ∃ p, m[0]? = some p ∧ ¬ (p.isTrap = true ∧ p.chainage = 0)) := by
  cases m with
  | nil => exact fun i => ⟨nofun, fun h => by obtain ⟨⟨-, p, e, -⟩, -⟩ := h; cases e⟩
  | cons p m =>
    have check : mapFirstPoint (p :: m) = if ¬ (p.isTrap = true ∧ p.chainage = 0) then some 0 else none := by
      show (if p.isTrap && p.chainage == 0 then none else some 0) = _
      by_cases h : p.isTrap = true ∧ p.chainage = 0
      · rw [if_neg (not_not.2 h), if_pos (by simpa using h)]
      · rw [if_pos h, if_neg (by simpa using h)]
    rw [check]
    refine findsLeast_const.congr fun i => ?_
    constructor
    · rintro ⟨h, rfl⟩
      exact ⟨rfl, p, rfl, h⟩
    · rintro ⟨rfl, q, e, h⟩
      cases e
      exact ⟨h, rfl⟩

/-- The END point that check 3 looks at. -/
theorem head?_indicesOf_isEnd : (indicesOf m Point.isEnd).head? =
    (List.range m.length).find? (fun i => (m[i]?).elim false Point.isEnd) := by
  unfold indicesOf
  rw [List.head?_filter]

theorem firstEnd_findsLeast :
    FindsLeast ((indicesOf m Point.isEnd).head?) (fun i => (m[i]?).any Point.isEnd = true) := by
  rw [head?_indicesOf_isEnd]
  refine findsLeast_range fun i => ?_
  cases h : m[i]? with
  | none => exact ⟨nofun, fun h => nomatch h.2⟩
  | some x => exact ⟨fun e => ⟨lt_of_getElem?_eq_some h, e⟩, fun h => h.2⟩

theorem any_isEnd_iff : m.any Point.isEnd = true ↔ ∃ i : Nat, (m[i]?).any Point.isEnd = true := by
  rw [List.any_eq_true]
  constructor
  · rintro ⟨p, hp, e⟩
    obtain ⟨i, hi⟩ := List.mem_iff_getElem?.1 hp
    exact ⟨i, by rw [hi]; exact e⟩
  · rintro ⟨i, e⟩
    cases h : m[i]? with
    | none => rw [h] at e; cases e
    | some p => exact ⟨p, List.mem_of_getElem? h, by rw [h] at e; exact e⟩

theorem mapLastPoint_findsLeast (hm : m.length ≠ 0) : FindsLeast (mapLastPoint m) (fun i =>
    (i + 1 < m.length ∧ (m[i]?).any Point.isEnd = true) ∨ (i + 1 = m.length ∧ m.any Point.isEnd = false)) := by
  have first := firstEnd_findsLeast (m := m)
  unfold mapLastPoint
  cases h : (indicesOf m Point.isEnd).head? with
  | none =>
    rw [h] at first
    have never := first.none_iff.1 rfl
    have none : m.any Point.isEnd = false := Bool.eq_false_iff.2 fun e => by
      obtain ⟨i, e⟩ := any_isEnd_iff.1 e
      exact never i e
    intro i
    rw [Option.some.injEq]
    constructor
    · rintro rfl
      refine ⟨.inr ⟨by omega, none⟩, fun j hj fails => ?_⟩
      obtain ⟨-, e⟩ | ⟨e, -⟩ := fails
      · exact never j e
      · omega
    · rintro ⟨⟨-, e⟩ | ⟨e, -⟩, -⟩
      · exact absurd e (never i)
      · omega
  | some k =>
    rw [h] at first
    obtain ⟨atEnd, before⟩ := (first k).1 rfl
    have some : m.any Point.isEnd = true := any_isEnd_iff.2 ⟨k, atEnd⟩
    dsimp only
    intro i
    refine (findsLeast_const (P := k + 1 < m.length) (k := k) i).trans ?_
    rw [some]
    constructor
    · rintro ⟨⟨lt, rfl⟩, -⟩
      refine ⟨.inl ⟨lt, atEnd⟩, fun j hj fails => ?_⟩
      obtain ⟨-, e⟩ | ⟨-, e⟩ := fails
      · exact before j hj e
      · cases e
    · rintro ⟨⟨lt, e⟩ | ⟨-, e⟩, least⟩
      · have le : ¬ i < k := fun lt => before i lt e
        have ge : ¬ k < i := fun lt' => least k lt' (.inl ⟨by omega, atEnd⟩)
        obtain rfl : i = k := by omega
        exact ⟨⟨lt, rfl⟩, fun j hj fails => absurd fails.2 (by omega)⟩
      · cases e

theorem chainMm_le_iff {i j : Nat} {p q : Point} (hp : m[i]? = some p) (hq : m[j]? = some q) :
    chainMm m i ≤ chainMm m j ↔ p.chainage ≤ q.chainage := by
  unfold chainMm
  rw [hp, hq, Option.elim_some, Option.elim_some]
  omega

theorem mapChainageOrder_findsLeast : FindsLeast (mapChainageOrder m) (fun i =>
    0 < i ∧ ∃ p, m[i - 1]? = some p ∧ ∃ q, m[i]? = some q ∧ q.chainage ≤ p.chainage) := by
  refine findsLeast_range fun i => ?_
  rw [Bool.and_eq_true, decide_eq_true_eq, decide_eq_true_eq]
  constructor
  · rintro ⟨hi, p, hp, q, hq, le⟩
    exact ⟨lt_of_getElem?_eq_some hq, hi, (chainMm_le_iff hq hp).2 le⟩
  · rintro ⟨lt, hi, le⟩
    have hq := List.getElem?_eq_getElem lt
    have hp := List.getElem?_eq_getElem (l := m) (i := i - 1) (by omega)
    exact ⟨hi, _, hp, _, hq, (chainMm_le_iff hq hp).1 le⟩

theorem nodesConflict_iff {p q : Point} : nodesConflict p q = true ↔ p.node ≠ none ∧ p.node = q.node ∧
    ((p.isValve = true ∧ q.isValve = true) ∨ (p.isMeter = true ∧ q.isMeter = true) ∨
      ∃ ch h h', p.part = .detector ch h ∧ q.part = .detector ch h') := by
  unfold nodesConflict Point.isValve Point.isMeter
  rw [Bool.and_eq_true, Bool.and_eq_true, Option.isSome_iff_ne_none, beq_iff_eq, and_assoc]
  refine and_congr_right fun _ => and_congr_right fun _ => ?_
  cases p.part <;> cases q.part <;> simp
  exact eq_comm

theorem mapNodeConflict_findsLeast : FindsLeast (mapNodeConflict m) (fun i =>
    ∃ q, m[i]? = some q ∧ ∃ p ∈ m.take i, p.node ≠ none ∧ p.node = q.node ∧
      ((p.isValve = true ∧ q.isValve = true) ∨ (p.isMeter = true ∧ q.isMeter = true) ∨
        ∃ ch h h', p.part = .detector ch h ∧ q.part = .detector ch h')) := by
  refine findsLeast_range fun i => ?_
  rw [getElem?_elim_eq_true]
  simp only [List.any_eq_true, nodesConflict_iff]
  exact ⟨fun ⟨q, hq, h⟩ => ⟨lt_of_getElem?_eq_some hq, q, hq, h⟩, fun h => h.2⟩

theorem mapFlowSource_findsLeast : FindsLeast (mapFlowSource m) (fun i =>
    i < m.length ∧ ((i = 0 ∧ ownSource m i = none) ∨
      ∃ f, ownSource m i = some f ∧ (m[f]?).any Point.isMeter = false)) := by
  refine findsLeast_range fun i => and_congr_right fun _ => ?_
  show _ ↔ (match ownSource m i with
    | some f => ! (m[f]?).elim false Point.isMeter
    | none => i == 0) = true
  cases ownSource m i with
  | none => simp
  | some f =>
    have same : (m[f]?).any Point.isMeter = (m[f]?).elim false Point.isMeter := by cases m[f]? <;> rfl
    simp [same]

theorem lt_of_valvePart {i : Nat} {v : ValvePart} (h : valvePart m i = some v) : i < m.length := by
  unfold valvePart at h
  by_contra out
  rw [List.getElem?_eq_none (not_lt.1 out)] at h
  cases h

theorem mapTrapReference_findsLeast : FindsLeast (mapTrapReference m) (fun i =>
    ∃ v, valvePart m i = some v ∧ v.role ≠ .mainline ∧
      ¬ ∃ x, v.trapRef.bind (fun r => m[r]?) = some x ∧ x.isTrap = true) := by
  refine findsLeast_range fun i => ?_
  cases h : valvePart m i with
  | none => exact ⟨fun ⟨_, e, _⟩ => (nomatch e), fun h => nomatch h.2⟩
  | some v =>
    have ref : (v.trapRef.bind (fun r => m[r]?)).elim false Point.isTrap = true ↔
        ∃ x, v.trapRef.bind (fun r => m[r]?) = some x ∧ x.isTrap = true := by
      cases v.trapRef.bind (fun r => m[r]?) <;> simp
    dsimp only
    rw [Bool.and_eq_true, bne_iff_ne, Bool.not_eq_true', ← Bool.not_eq_true, ref]
    exact ⟨fun ⟨_, e, fails⟩ => by cases e; exact ⟨lt_of_valvePart h, fails⟩, fun fails => ⟨v, rfl, fails.2⟩⟩

theorem mapSupervised_findsLeast : FindsLeast (mapSupervised m) (fun i =>
    i < m.length ∧ 64 < (supervisedNodes (m.take (i + 1))).length) :=
  findsLeast_range fun i => by rw [decide_eq_true_eq]

end Map

/-! ### The checks over programs (Table 6-4) -/

section Programs
variable {m : List Point} {t : SeqTable} {p : Program}

theorem find?_filterMap_key {l : List Nat} {f : Nat → Option Program} {fails : Program → Bool} :
    ((l.filterMap fun n => (f n).map fun p => (n, p)).find? fun x => fails x.2).map Prod.fst =
      l.find? fun n => (f n).elim false fails := by
  induction l with
  | nil => rfl
  | cons n l ih =>
    rw [List.filterMap_cons, List.find?_cons]
    cases f n with
    | none => exact ih
    | some p =>
      show ((((n, p) :: _).find? fun x => fails x.2).map Prod.fst) = match fails p with
        | true => some n
        | false => _
      rw [List.find?_cons]
      cases fails p
      · exact ih
      · rfl

theorem firstFailing_findsLeast {fails : Program → Bool} {F : Program → Prop} (h : ∀ p, fails p = true ↔ F p) :
    FindsLeast (firstFailing t fails) (fun i => i < 16 ∧ ∃ p, t.programs.getD i none = some p ∧ F p) := by
  unfold firstFailing definedPrograms
  rw [find?_filterMap_key]
  refine findsLeast_range fun i => and_congr_right fun _ => ?_
  cases t.programs.getD i none with
  | none => exact ⟨fun ⟨_, e, _⟩ => (nomatch e), nofun⟩
  | some p => exact ⟨fun ⟨_, e, f⟩ => by cases e; exact (h p).2 f, fun e => ⟨p, rfl, (h p).1 e⟩⟩

/-- The action of a program's step place. -/
def actsAt (t : SeqTable) (a : Action) (i : Nat) : Bool := (t.steps.getD i none).elim false (fun o => o.action == a)

theorem stepRangeFails_iff : stepRangeFails t p = true ↔
    127 < p.first + p.count - 1 ∨ ∃ q, q < p.count ∧ t.steps.getD (p.first + q) none = none := by
  unfold stepRangeFails programSteps
  rw [Bool.or_eq_true, decide_eq_true_eq, List.any_map, List.any_eq_true]
  refine or_congr_right (exists_congr fun q => ?_)
  rw [List.mem_range, Function.comp_apply, Option.isNone_iff_eq_none]

theorem programEndFails_iff : programEndFails t p = true ↔
    p.count = 0 ∨ actsAt t .endCycle (p.first + (p.count - 1)) = false ∨
      ∃ q, q < p.count - 1 ∧ actsAt t .endCycle (p.first + q) = true := by
  unfold programEndFails programSteps
  dsimp only
  cases h : p.count with
  | zero => simp
  | succ n =>
    rw [List.range_succ, List.map_append, List.map_singleton, List.getLast?_concat, List.dropLast_concat, Bool.or_eq_true,
      List.any_map, List.any_eq_true, Bool.not_eq_true', Nat.add_sub_cancel]
    have one : n + 1 ≠ 0 := by omega
    refine (or_congr .rfl (exists_congr fun q => ?_)).trans (or_iff_right one).symm
    rw [List.mem_range]
    exact .rfl

theorem trapPointFails_iff : trapPointFails m p = true ↔
    ¬ ∃ x, m[p.trap]? = some x ∧ ∃ role, x.part = .trap role ∧
      (p.kind = .launch → role ≠ .receiver) ∧ (p.kind = .receive → role ≠ .launcher) := by
  unfold trapPointFails
  cases m[p.trap]? with
  | none => simp
  | some x =>
    rw [Option.map_some]
    cases hx : x.part with
    | trap role => cases p.kind <;> simp [hx]
    | _ => simp [hx]

/-- An operand that a step needs is missing or of another kind. -/
def OperandMissing (m : List Point) (o : StepRec) : Prop :=
  ((o.action = .openValve ∨ o.action = .closeValve ∨ o.action = .verifyOpen ∨ o.action = .verifyClosed) ∧
      ¬ ∃ x, o.operand.bind (fun i => m[i]?) = some x ∧ x.isValve = true) ∨
    (o.action = .awaitPassage ∧ ¬ ∃ x, o.operand.bind (fun i => m[i]?) = some x ∧ x.isDetector = true) ∨
    (o.action = .awaitApproach ∧ ¬ ∃ x, o.operand.bind (fun i => m[i]?) = some x ∧ (fun _ : Point => true) x = true)

theorem operandOk_iff (o : StepRec) : operandOk m o = false ↔ OperandMissing m o := by
  unfold operandOk OperandMissing
  cases o.operand.bind (fun i => m[i]?) <;> cases o.action <;> simp

theorem operandFails_iff : operandFails m t p = true ↔
    ∃ q, q < p.count ∧ ∃ o, t.steps.getD (p.first + q) none = some o ∧ OperandMissing m o := by
  unfold operandFails programSteps
  rw [List.any_map, List.any_eq_true]
  refine exists_congr fun q => ?_
  rw [List.mem_range, Function.comp_apply]
  refine and_congr_right fun _ => ?_
  cases t.steps.getD (p.first + q) none with
  | none => exact ⟨nofun, fun ⟨_, e, _⟩ => nomatch e⟩
  | some o =>
    rw [Option.elim_some, Bool.not_eq_true', operandOk_iff]
    exact ⟨fun h => ⟨o, rfl, h⟩, fun ⟨_, e, h⟩ => by cases e; exact h⟩

/-- The number of a program's steps of an action. -/
def actCount (t : SeqTable) (p : Program) (a : Action) : Nat :=
  ((List.range p.count).filter (fun q => actsAt t a (p.first + q))).length

theorem programSteps_count (a : Action) : ((programSteps t p).filter (isAction a)).length = actCount t p a := by
  unfold programSteps actCount
  rw [List.filter_map, List.length_map]
  rfl

theorem runStepsFail_iff : runStepsFail t p = true ↔
    (p.kind = .launch ∧ ¬ (actCount t p .insertRun = 1 ∧ actCount t p .removeRun = 0)) ∨
      (p.kind = .receive ∧ ¬ (actCount t p .removeRun = 1 ∧ actCount t p .insertRun = 0)) := by
  unfold runStepsFail
  dsimp only
  rw [programSteps_count, programSteps_count]
  cases p.kind <;> simp [imp_iff_not_or]

end Programs

/-! ### The checks of a Class Table (Table 1-5) -/

section Classes
variable {s : State} {cs : List (Option PigClass)}

theorem classCount_eq_zero : classCount cs = 0 ↔ cs.any Option.isSome = false := by
  unfold classCount
  rw [List.length_eq_zero_iff, List.filter_eq_nil_iff, List.any_eq_false]

theorem classInUse_iff {i : Nat} : s.classInUse i = true ↔ (∃ r ∈ s.tracker.runs, r.cls = i) ∨
    ∃ k, (s.slot k).state ≠ .idle ∧ ((s.slot k).cls = i ∨ ∃ ch, (s.slot k).chain = some ch ∧ ch.cls = i) := by
  unfold State.classInUse
  rw [Bool.or_eq_true, List.any_eq_true, List.any_eq_true]
  refine or_congr (by simp only [beq_iff_eq]) (exists_congr fun k => ?_)
  rw [and_iff_right (mem_slotIds k), Bool.and_eq_true, Bool.or_eq_true, bne_iff_ne, beq_iff_eq]
  refine and_congr_right fun _ => or_congr_right ?_
  cases (s.slot k).chain <;> simp

theorem classesDefined_findsLeast :
    FindsLeast ((List.range 8).find? (fun c => s.classInUse c && (cs.getD c none).isNone)) (fun i =>
      i < 8 ∧ cs.getD i none = none ∧ ((∃ r ∈ s.tracker.runs, r.cls = i) ∨
        ∃ k, (s.slot k).state ≠ .idle ∧ ((s.slot k).cls = i ∨ ∃ ch, (s.slot k).chain = some ch ∧ ch.cls = i))) := by
  refine findsLeast_range fun i => and_congr_right fun _ => ?_
  rw [Bool.and_eq_true, classInUse_iff, Option.isNone_iff_eq_none, and_comm]

end Classes

/-! ### What a Line Map that passes is -/

section Sound
variable {m : List Point} {t : SeqTable}

theorem flowSource_isMeter (pass : mapFlowSource m = none) {j : Nat} (hj : j < m.length) :
    ∃ f p, flowSource m j = some f ∧ m[f]? = some p ∧ p.isMeter = true := by
  have never := mapFlowSource_findsLeast.none_iff.1 pass
  have meter {i f : Nat} (hi : i < m.length) (h : ownSource m i = some f) : ∃ p, m[f]? = some p ∧ p.isMeter = true := by
    by_contra none
    refine never i ⟨hi, .inr ⟨f, h, ?_⟩⟩
    cases e : m[f]? with
    | none => rfl
    | some p => exact Bool.eq_false_iff.2 fun hp => none ⟨p, e, hp⟩
  induction j with
  | zero =>
    rw [flowSource_zero]
    cases h : ownSource m 0 with
    | none => exact absurd ⟨hj, .inl ⟨rfl, h⟩⟩ (never 0)
    | some f =>
      obtain ⟨p, hp, isMeter⟩ := meter hj h
      exact ⟨f, p, rfl, hp, isMeter⟩
  | succ j ih =>
    rw [flowSource_succ]
    cases h : ownSource m (j + 1) with
    | none => exact ih (by omega)
    | some f =>
      obtain ⟨p, hp, isMeter⟩ := meter hj h
      exact ⟨f, p, rfl, hp, isMeter⟩

theorem isEnd_iff_last (hm : m.length ≠ 0) (pass : mapLastPoint m = none) {i : Nat} {p : Point} (hp : m[i]? = some p) :
    p.isEnd = true ↔ i + 1 = m.length := by
  have never := (mapLastPoint_findsLeast hm).none_iff.1 pass
  have lt := lt_of_getElem?_eq_some hp
  constructor
  · intro e
    by_contra ne
    exact never i (.inl ⟨by omega, by rw [hp]; exact e⟩)
  · intro last
    have some : m.any Point.isEnd = true := Bool.not_eq_false _ ▸ fun none => never i (.inr ⟨last, none⟩)
    obtain ⟨k, atEnd⟩ := any_isEnd_iff.1 some
    have ge : ¬ k + 1 < m.length := fun lt => never k (.inl ⟨lt, atEnd⟩)
    have within : k < m.length := by
      by_contra out
      rw [List.getElem?_eq_none (not_lt.1 out)] at atEnd
      cases atEnd
    obtain rfl : k = i := by omega
    rwa [hp] at atEnd

theorem pairwise_not_nodesConflict (pass : mapNodeConflict m = none) : m.Pairwise (fun a b => nodesConflict a b = false) := by
  have never := mapNodeConflict_findsLeast.none_iff.1 pass
  refine List.pairwise_iff_getElem.2 fun i j hi hj lt => Bool.eq_false_iff.2 fun e => ?_
  refine never j ⟨m[j], List.getElem?_eq_getElem hj, m[i], ?_, nodesConflict_iff.1 e⟩
  rw [List.mem_take_iff_getElem]
  exact ⟨i, by omega, rfl⟩

end Sound

/-- Settles O25. Each check reports the least index at which its rule is broken, and the first check in order that reports is the
answer; a Line Map is sound because none of its checks finds an index. -/
theorem validatedMapIsSound : Obligations.ValidatedMapIsSound := by
  unfold Obligations.ValidatedMapIsSound
  intro reports isAction trapPoint operand
  refine ⟨fun t m short => ?map, fun s cs => ?classes, fun m t => ?sequence, fun t m pass => ?sound⟩
  case map =>
    refine firstError_reports (cs := [(1, mapEmpty m), (2, mapFirstPoint m), (3, mapLastPoint m), (4, mapChainageOrder m),
      (5, mapNodeConflict m), (6, mapFlowSource m), (7, mapTrapReference m), (8, mapSupervised m),
      (9, mapSequenceReference t m)]) (fun c i fails => ?_) ?_ (by simp)
    · obtain ⟨-, -, h⟩ | ⟨-, h, -⟩ | ⟨-, ⟨h, -⟩ | ⟨h, -⟩⟩ | ⟨-, -, p, -, q, h, -⟩ | ⟨-, q, h, -⟩ | ⟨-, h, -⟩ | ⟨-, v, h, -⟩ | ⟨-, h, -⟩ |
        ⟨-, h, -⟩ := fails
      · omega
      · omega
      · omega
      · omega
      · have := lt_of_getElem?_eq_some h
        omega
      · have := lt_of_getElem?_eq_some h
        omega
      · omega
      · have := lt_of_valvePart h
        omega
      · omega
      · omega
    · refine ⟨mapEmpty_findsLeast.congr fun i => ?_, fun nonempty => ⟨mapFirstPoint_findsLeast.congr fun i => ?_, fun _ =>
        ⟨(mapLastPoint_findsLeast ?_).congr fun i => ?_, fun _ => ⟨mapChainageOrder_findsLeast.congr fun i => ?_, fun _ =>
        ⟨mapNodeConflict_findsLeast.congr fun i => ?_, fun _ => ⟨mapFlowSource_findsLeast.congr fun i => ?_, fun _ =>
        ⟨mapTrapReference_findsLeast.congr fun i => ?_, fun _ => ⟨mapSupervised_findsLeast.congr fun i => ?_, fun _ =>
        ⟨(firstFailing_findsLeast (F := fun p => trapPoint m p ∨ operand m t p) fun p => ?_).congr fun i => ?_,
          fun _ => trivial⟩⟩⟩⟩⟩⟩⟩⟩⟩
      case refine_3 => exact fun e => nonempty 255 (.inl ⟨rfl, e, rfl⟩)
      case refine_10 =>
        rw [Bool.or_eq_true]
        exact or_congr trapPointFails_iff operandFails_iff
      all_goals simp only [Nat.reduceEqDiff, false_and, or_false, false_or, true_and]
      all_goals exact .rfl
  case classes =>
    refine firstError_reports (cs := [(1, if classCount cs = 0 then some 255 else none),
      (10, (List.range 8).find? (fun c => s.classInUse c && (cs.getD c none).isNone))]) (fun c i fails => ?_) ?_ (by simp)
    · obtain ⟨-, -, h⟩ | ⟨-, h, -⟩ := fails <;> omega
    · refine ⟨findsLeast_const.congr fun i => ?_, fun _ => ⟨classesDefined_findsLeast.congr fun i => ?_, fun _ => trivial⟩⟩
      · simp only [Nat.reduceEqDiff, false_and, or_false, true_and, classCount_eq_zero]
      · simp only [Nat.reduceEqDiff, false_and, false_or, true_and]
  case sequence =>
    refine firstError_reports (cs := [(11, firstFailing t (stepRangeFails t)), (12, firstFailing t (programEndFails t)),
      (13, firstFailing t (trapPointFails m)), (14, firstFailing t (operandFails m t)),
      (15, firstFailing t (runStepsFail t))]) (fun c i fails => ?_) ?_ (by simp)
    · obtain ⟨h, -⟩ := fails
      omega
    · refine ⟨(firstFailing_findsLeast fun _ => stepRangeFails_iff).congr fun i => ?_, fun _ =>
        ⟨(firstFailing_findsLeast fun _ => programEndFails_iff).congr fun i => ?_, fun _ =>
        ⟨(firstFailing_findsLeast fun _ => trapPointFails_iff).congr fun i => ?_, fun _ =>
        ⟨(firstFailing_findsLeast fun _ => operandFails_iff).congr fun i => ?_, fun _ =>
        ⟨(firstFailing_findsLeast fun _ => runStepsFail_iff).congr fun i => ?_, fun _ => trivial⟩⟩⟩⟩⟩
      all_goals simp only [Nat.reduceEqDiff, false_and, or_false, false_or, true_and]
      all_goals exact .rfl
  case sound =>
    have passes := firstError_none pass
    have nonempty : m.length ≠ 0 := fun e => by
      have := mapEmpty_findsLeast.none_iff.1 (passes (1, mapEmpty m) (by simp)) 255
      exact this ⟨e, rfl⟩
    refine ⟨?_, fun i p hp => isEnd_iff_last nonempty (passes (3, mapLastPoint m) (by simp)) hp,
      mapChainageOrder_rising (passes (4, mapChainageOrder m) (by simp)),
      pairwise_not_nodesConflict (passes (5, mapNodeConflict m) (by simp)),
      fun j hj => flowSource_isMeter (passes (6, mapFlowSource m) (by simp)) (by omega), ?_⟩
    · have never := mapFirstPoint_findsLeast.none_iff.1 (passes (2, mapFirstPoint m) (by simp)) 0
      have hp := List.getElem?_eq_getElem (l := m) (i := 0) (by omega)
      by_contra bad
      exact never ⟨rfl, _, hp, fun ok => bad ⟨_, hp, ok⟩⟩
    · have never := mapSupervised_findsLeast.none_iff.1 (passes (8, mapSupervised m) (by simp)) (m.length - 1)
      rw [Nat.sub_add_cancel (by omega), List.take_length] at never
      by_contra more
      exact never ⟨by omega, by omega⟩

end Sys2Proof.Machine
end

section
/-! PROOF. The second event: its parts, what each of them leaves alone, and the clock (O23). -/

namespace Sys2Proof.Machine

open Relation

variable {s t u : State}

/-! ### What the parts of a second event leave alone -/

/-- A change of the interlock, the matcher and the scan, with its records and conditions, alone. -/
structure FieldKept (s t : State) : Prop where
  tables : t.tables = s.tables
  tracker : t.tracker = s.tracker
  seq : t.seq = s.seq
  config : t.mgmt.config = s.mgmt.config
  mode : t.mgmt.mode = s.mgmt.mode
  service : t.mgmt.service = s.mgmt.service
  waiting : t.mgmt.waiting = s.mgmt.waiting
  linkA : t.portA.link = s.portA.link
  down : t.portA.down = s.portA.down
  answers : t.portA.answers = s.portA.answers
  portB : t.portB = s.portB
  lines : t.lines = s.lines
  fresh : t.fresh = s.fresh
  pending : t.pending = s.pending

theorem FieldKept.refl (s : State) : FieldKept s s := by constructor <;> rfl

theorem FieldKept.trans (h : FieldKept s t) (g : FieldKept t u) : FieldKept s u := by
  cases h; cases g; constructor <;> simp_all

theorem Reported.fieldKept (h : Reported s t) : FieldKept s t where
  tables := h.tables
  tracker := h.tracker
  seq := h.seq
  config := h.config
  mode := h.mode
  service := h.service
  waiting := h.waiting
  linkA := h.linkA
  down := h.down
  answers := h.answers
  portB := h.portB
  lines := h.lines
  fresh := h.fresh
  pending := h.pending

theorem FieldKept.foldl {α : Type} {f : State → α → State} (hf : ∀ s a, FieldKept s (f s a)) (xs : List α) (s : State) :
    FieldKept s (xs.foldl f s) :=
  foldl_keeps (FieldKept s) f (fun t a h => h.trans (hf t a)) xs s (.refl s)

theorem setValves_fieldKept (vs : List ValveRec) : FieldKept s (s.setValves vs) := by constructor <;> rfl

theorem setDetectors_fieldKept (ds : List DetectorRec) : FieldKept s (s.setDetectors ds) := by constructor <;> rfl

theorem setNodes_fieldKept (ns : List NodeRec) : FieldKept s (s.setNodes ns) := by constructor <;> rfl

theorem setPollList_fieldKept (ps : List Nat) : FieldKept s (s.setPollList ps) := by constructor <;> rfl

theorem setScanCountdown_fieldKept (n : Nat) : FieldKept s (s.setScanCountdown n) := by constructor <;> rfl

theorem silenceValve_fieldKept (s : State) (p : Nat) : FieldKept s (silenceValve s p) := by
  unfold silenceValve
  split
  · exact .refl s
  dsimp only
  split
  · exact (setValves_fieldKept _).trans (offer_reported _ _ _ _ _ _).fieldKept
  · exact setValves_fieldKept _

theorem silenceNode_fieldKept (r : NodeRec) : FieldKept s (silenceNode r s) :=
  (((offer_reported s _ _ _ _ _).trans (raise_reported _ _)).fieldKept.trans (setDetectors_fieldKept _)).trans
    (FieldKept.foldl silenceValve_fieldKept _ _)

theorem missRound_fieldKept (s : State) (n : Nat) : FieldKept s (missRound s n) := by
  unfold missRound
  split
  · exact .refl s
  split
  · exact .refl s
  dsimp only
  split
  · exact (setNodes_fieldKept _).trans (silenceNode_fieldKept _)
  · exact setNodes_fieldKept _

theorem roundAndReload_fieldKept : FieldKept s (roundAndReload s) :=
  (((FieldKept.foldl missRound_fieldKept _ s).trans (setNodes_fieldKept _)).trans (setPollList_fieldKept _)).trans
    (setScanCountdown_fieldKept _)

theorem mismatchValve_fieldKept (p : Nat) : FieldKept s (mismatchValve p s) := by
  unfold mismatchValve
  split
  · exact .refl s
  split
  · exact .refl s
  · exact ((raise_reported s _).fieldKept.trans (setValves_fieldKept _)).trans (offer_reported _ _ _ _ _ _).fieldKept

theorem tickValve_fieldKept (s : State) (p : Nat) : FieldKept s (tickValve s p) := by
  unfold tickValve
  split
  · exact .refl s
  split
  · exact .refl s
  dsimp only
  split
  · exact (setValves_fieldKept _).trans (mismatchValve_fieldKept p)
  · exact setValves_fieldKept _

theorem tickHoldOff_fieldKept : FieldKept s (tickHoldOff s) := by
  unfold tickHoldOff
  split
  · exact .refl s
  · exact setDetectors_fieldKept _

theorem tickTravel_fieldKept : FieldKept s (tickTravel s) := by
  unfold tickTravel
  split
  · exact .refl s
  · exact FieldKept.foldl tickValve_fieldKept _ s

theorem tickScan_fieldKept : FieldKept s (tickScan s) := by
  unfold tickScan
  split
  · exact .refl s
  split
  · exact roundAndReload_fieldKept
  · exact setScanCountdown_fieldKept _

/-- What every part of a second event leaves alone, the Run Tracker's from its clock on. -/
structure Timed (s t : State) : Prop extends PortsKept s t where
  tables : t.tables = s.tables
  clock : t.tracker.clock = s.tracker.clock
  mode : t.mgmt.mode = s.mgmt.mode
  lines : t.lines = s.lines

theorem Timed.refl (s : State) : Timed s s := { PortsKept.refl s with tables := rfl, clock := rfl, mode := rfl, lines := rfl }

theorem Timed.trans (h : Timed s t) (g : Timed t u) : Timed s u :=
  { h.toPortsKept.trans g.toPortsKept with
    tables := g.tables.trans h.tables
    clock := g.clock.trans h.clock
    mode := g.mode.trans h.mode
    lines := g.lines.trans h.lines }

theorem FieldKept.timed (h : FieldKept s t) : Timed s t where
  active := by rw [h.tables]
  pendingCommit := by rw [h.tables]
  service := h.service
  waiting := h.waiting
  linkA := h.linkA
  down := h.down
  answers := h.answers
  linkB := by rw [h.portB]
  up := by rw [h.portB]
  burst := by rw [h.portB]
  turn := by rw [h.portB]
  pending := h.pending
  tables := h.tables
  clock := by rw [h.tracker]
  mode := h.mode
  lines := h.lines

theorem Sequenced.timed {ks : SlotId → Prop} (h : Sequenced ks s t) : Timed s t :=
  { h.portsKept with tables := h.tables, clock := h.clock, mode := h.mode, lines := h.lines }

theorem setRuns_timed (rs : List Run) : Timed s (s.setRuns rs) :=
  ⟨by constructor <;> rfl, rfl, rfl, rfl, rfl⟩

theorem setFlows_timed (fs : List FlowRec) : Timed s (s.setFlows fs) :=
  ⟨by constructor <;> rfl, rfl, rfl, rfl, rfl⟩

theorem takeOut_timed (w : WayOut) (id : Nat) : Timed s (takeOut w id s) := by
  rw [takeOut_eq]
  exact ⟨by constructor <;> rfl, rfl, rfl, rfl, rfl⟩

theorem removeRun_timed (w : WayOut) (r : Run) (point detail : Nat) : Timed s (removeRun w r point detail s) := by
  rw [removeRun_eq_takeOut]
  exact (takeOut_timed w r.id).trans (offer_reported _ _ _ _ _ _).fieldKept.timed

theorem endRunEvent_timed (r : Run) (raised : AnomalySet) : Timed s (endRunEvent r raised s) :=
  (setRuns_timed _).trans (alarmOf_reported _ _ _).fieldKept.timed

theorem exitStep_timed (r : Run) : Timed s (exitStep r s) := by
  unfold exitStep
  split
  · exact (setRuns_timed _).trans (removeRun_timed _ _ _ _)
  · exact .refl s

theorem advanceRun_timed (s : State) (id : Nat) : Timed s (advanceRun s id) := by
  cases hr : s.run id with
  | none => rw [State.advanceRun_none hr]; exact .refl s
  | some r =>
    by_cases hl : r.state = .lost
    · rw [State.advanceRun_lost hr hl]; exact .refl s
    · rw [State.advanceRun_some hr hl]
      exact ((logMisses_reported _ s).fieldKept.timed.trans (endRunEvent_timed _ _)).trans (exitStep_timed _)

theorem advanceAll_timed : Timed s (advanceAll s) :=
  foldl_keeps (Timed s) advanceRun (fun t id h => h.trans (advanceRun_timed t id)) _ s (.refl s)

/-- The Run Tracker's part after its clock. -/
def trackRuns (s : State) : State := if s.mgmt.mode = .transparent then s else advanceAll (ageFlows s)

theorem tickTracker_eq : tickTracker s = trackRuns (tickClock (applyCommit s)) := rfl

theorem trackRuns_timed : Timed s (trackRuns s) := by
  unfold trackRuns
  split
  · exact .refl s
  · exact (setFlows_timed _).trans advanceAll_timed

theorem secondPart_timed {w : SecondWork} (h : w ≠ .tracker) : Timed s (secondPart s w) := by
  cases w
  case tracker => exact absurd rfl h
  case holdOff => exact tickHoldOff_fieldKept.timed
  case travel => exact tickTravel_fieldKept.timed
  case scan => exact tickScan_fieldKept.timed
  case slots => exact (tickSlots_sequenced s).timed

theorem secondParts_timed {ws : List SecondWork} (h : .tracker ∉ ws) (s : State) : Timed s (ws.foldl secondPart s) := by
  induction ws generalizing s with
  | nil => exact .refl s
  | cons w ws ih =>
    obtain ⟨hw, hws⟩ := not_or.1 (mt List.mem_cons.2 h)
    exact (secondPart_timed (Ne.symm hw)).trans (ih hws _)

/-! ### The order of the parts -/

/-- A well-formed order takes the Run Tracker's part once. -/
theorem SecondWork.exists_split {order : List SecondWork} (h : SecondWork.wf order = true) :
    ∃ before after, order = before ++ .tracker :: after ∧ .tracker ∉ before ∧ .tracker ∉ after := by
  rw [SecondWork.wf, Bool.and_eq_true, beq_iff_eq, List.all_eq_true] at h
  obtain ⟨length, all⟩ := h
  have within : SecondWork.all ⊆ order := fun w hw => List.contains_iff_mem.1 (all w hw)
  have perm : SecondWork.all.Perm order :=
    (List.subperm_of_subset (by decide) within).perm_of_length_le (le_of_eq length)
  obtain ⟨before, after, rfl⟩ := List.append_of_mem (within (show .tracker ∈ SecondWork.all by decide))
  have nodup := perm.nodup_iff.1 (show SecondWork.all.Nodup by decide)
  rw [List.nodup_middle, List.nodup_cons, List.mem_append] at nodup
  exact ⟨before, after, rfl, fun h => nodup.1 (.inl h), fun h => nodup.1 (.inr h)⟩

theorem secondParts_split (before after : List SecondWork) : (before ++ .tracker :: after).foldl secondPart s =
    after.foldl secondPart (trackRuns (tickClock (applyCommit (before.foldl secondPart s)))) := by
  rw [List.foldl_append]
  rfl

/-- In TRANSPARENT the parts beside the Run Tracker's do nothing. -/
theorem secondParts_transparent {ws : List SecondWork} (h : .tracker ∉ ws) (hm : s.mgmt.mode = .transparent) :
    ws.foldl secondPart s = s := by
  induction ws with
  | nil => rfl
  | cons w ws ih =>
    obtain ⟨hw, hws⟩ := not_or.1 (mt List.mem_cons.2 h)
    have still : secondPart s w = s := by
      cases w
      case tracker => exact absurd rfl hw
      case holdOff => exact if_pos hm
      case travel => exact if_pos hm
      case scan => exact if_pos (by rw [hm]; rfl)
      case slots => exact if_neg (by rw [hm]; decide)
    rw [List.foldl_cons, still]
    exact ih hws

theorem trackRuns_transparent (hm : s.mgmt.mode = .transparent) : trackRuns s = s := if_pos hm

/-! ### The commit and its answer -/

theorem finishCommit_tracker (status : Nat) (data : List Byte) : (finishCommit status data s).tracker = s.tracker := rfl

/-- A commit leaves the clock, the mode and the lines. -/
theorem applyCommit_clock : (applyCommit s).tracker.clock = s.tracker.clock ∧ (applyCommit s).mgmt.mode = s.mgmt.mode ∧
    (applyCommit s).lines = s.lines := by
  refine applyCommit_keeps (P := fun t => t.tracker.clock = s.tracker.clock ∧ t.mgmt.mode = s.mgmt.mode ∧ t.lines = s.lines)
    (fun _ _ _ h => h) (fun t _ _ => ?_) ⟨rfl, rfl, rfl⟩
  cases t <;> exact ⟨rfl, rfl, rfl⟩

theorem applyCommit_none (h : s.tables.pendingCommit = none) : applyCommit s = s := by
  unfold applyCommit
  rw [h]

theorem answerUnknown_tracker : (answerUnknown s).tracker = s.tracker := by
  unfold answerUnknown
  split
  · split <;> rfl
  · rfl

theorem answerAndLeave_tracker (r : Request) (status : Nat) (data : List Byte) :
    (answerAndLeave r status data s).tracker = s.tracker := by
  show (answerUnknown (answerUnknown (leaveService (answerRequest r status data false s)))).tracker = _
  rw [answerUnknown_tracker, answerUnknown_tracker]
  rfl

theorem answerCommit_tracker : (answerCommit s).tracker = s.tracker := by
  unfold answerCommit
  split
  · split
    · exact answerAndLeave_tracker ..
    · rfl
  · rfl

theorem answerCommit_idle (h : ∀ r status data, s.mgmt.service ≠ some ⟨r, .commitApplied status data⟩) : answerCommit s = s := by
  unfold answerCommit
  split
  · next r status data e => exact absurd e (h r status data)
  · rfl

theorem answerCommit_waits {r : Request} {status : Nat} {data : List Byte}
    (h : s.mgmt.service = some ⟨r, .commitApplied status data⟩) (hf : s.freePlaces = 0) : answerCommit s = s := by
  unfold answerCommit
  rw [h]
  exact if_neg (by omega)

theorem answerCommit_answers {r : Request} {status code : Nat} {data args : List Byte}
    (h : s.mgmt.service = some ⟨r, .commitApplied status data⟩) (hf : 0 < s.freePlaces) (hp : r.payload = byte code :: args)
    (hc : code ≤ 255) (hw : s.mgmt.waiting.elim true Request.known = true) :
    answerCommit s = s.answered r code status data := by
  unfold answerCommit
  rw [h]
  refine (if_pos hf).trans ?_
  rw [answerAndLeave_eq r _ _ hw, Request.code_of_payload hp (by omega)]
  rfl

theorem secondParts_spec {order : List SecondWork} (h : SecondWork.wf order = true) :
    (order.foldl secondPart s).tracker.clock = s.tracker.clock + 1#32 ∧ (order.foldl secondPart s).lines = s.lines := by
  obtain ⟨before, after, rfl, hb, ha⟩ := SecondWork.exists_split h
  rw [secondParts_split]
  have first := secondParts_timed hb s
  have rest := trackRuns_timed.trans (secondParts_timed ha (trackRuns (tickClock (applyCommit (before.foldl secondPart s)))))
  obtain ⟨clock, -, lines⟩ := applyCommit_clock (s := before.foldl secondPart s)
  exact ⟨rest.clock.trans (congrArg (· + 1#32) (clock.trans first.clock)), rest.lines.trans (lines.trans first.lines)⟩

theorem exec_secondEvent {order : List SecondWork} (hp : s.powered = true) (h : SecondWork.wf order = true) :
    exec (.secondEvent order) s = .next (secondEvent order s) := by
  show ifWf (SecondWork.wf order) (live (secondEvent order) s) = _
  rw [ifWf_true h, live_eq hp]

/-- Settles O23. Every part but the Run Tracker's leaves the clock alone, and a well-formed order takes that part once. -/
theorem secondEventTicksTheClock : Obligations.SecondEventTicksTheClock := by
  intro order s hp hw
  obtain ⟨clock, lines⟩ := secondParts_spec (s := s) hw
  refine ⟨⟨_, exec_secondEvent hp hw, (congrArg Tracker.clock answerCommit_tracker).trans clock⟩, ?_, fun hm hc hv => ?_⟩
  · rw [exec_secondEvent hp hw]
    have powered : (order.foldl secondPart s).powered = true := by
      unfold State.powered at hp ⊢
      rwa [lines]
    exact (live_next powered rfl).symm
  · obtain ⟨before, after, rfl, hb, ha⟩ := SecondWork.exists_split hw
    rw [exec_secondEvent hp hw]
    unfold secondEvent
    rw [secondParts_split, secondParts_transparent hb hm, applyCommit_none hc, trackRuns_transparent (s := tickClock s) hm,
      secondParts_transparent ha (s := tickClock s) hm, answerCommit_idle (s := tickClock s) hv]
    rfl

end Sys2Proof.Machine
end

section
/-! PROOF. A pending commit at a second event (O24). -/

namespace Sys2Proof.Machine

variable {s u : State} {id : TableId} {r : Request}

/-! ### What a commit makes -/

/-- The active copies after a commit of a table that passed. -/
def State.installed (s : State) (id : TableId) : Tables :=
  match id with
  | .lineMap => { s.tables.active with lineMap := s.tables.shadow.lineMap }
  | .classes => { s.tables.active with classes := s.tables.shadow.classes }
  | .sequence => { s.tables.active with seq := s.tables.shadow.seq }

/-- The tables after a commit. -/
def State.tablesAfter (s : State) (id : TableId) : State :=
  { s with
    tables := { s.tables with
      pendingCommit := none
      active := if s.commitError id ≠ none then s.tables.active else s.installed id } }

/-- The status of a commit's answer. -/
def State.commitStatus (s : State) (id : TableId) : Nat := if s.commitError id = none then 0 else 10

/-- The data of a commit's answer. -/
def State.commitData (s : State) (id : TableId) : List Byte :=
  match s.commitError id with
  | some (code, index) => [byte code, byte index]
  | none => byte id.code :: copyCounts id s.tables.shadow

/-- The derived records and the bands after a commit. -/
def State.derivedAfter (s : State) (id : TableId) : State :=
  if s.commitError id ≠ none then s.tablesAfter id
  else
    match id with
    | .lineMap => rebuildDerived (s.tablesAfter id)
    | .classes => { s.tablesAfter id with
        tracker := { s.tracker with runs := s.tracker.runs.map (fun x =>
          { x with
            band := max (((s.tablesAfter id).classOf x.cls).band0 * 1000)
              (min (((s.tablesAfter id).classOf x.cls).bandMax * 1000) x.band) }) } }
    | .sequence => s.tablesAfter id

theorem clampBand_eq {c : PigClass} (h : c.band0 ≤ c.bandMax) (band : Nat) :
    clampBand c band = max (c.band0 * 1000) (min (c.bandMax * 1000) band) := by
  unfold clampBand
  split
  · omega
  split <;> omega

theorem State.classOf_ordered (h : ∀ c ∈ s.tables.active.classes, ∀ x, c = some x → x.band0 ≤ x.bandMax) (n : Nat) :
    (s.classOf n).band0 ≤ (s.classOf n).bandMax := by
  unfold State.classOf State.classAt
  rw [List.getD_eq_getElem?_getD]
  cases hc : s.tables.active.classes[n]? with
  | none => exact le_rfl
  | some c =>
    cases c with
    | none => exact le_rfl
    | some x => exact h _ (List.mem_of_getElem? hc) x rfl

section Applies
variable (hp : s.tables.pendingCommit = some id)
include hp

theorem applyCommit_failed {code index : Nat} (he : s.commitError id = some (code, index)) :
    applyCommit s = finishCommit 10 [byte code, byte index] s := by
  unfold applyCommit
  rw [hp]
  dsimp only
  rw [he]

theorem applyCommit_passed (he : s.commitError id = none) : applyCommit s =
    finishCommit 0 (byte id.code :: copyCounts id (installTable id s).tables.active) (installTable id s) := by
  unfold applyCommit
  rw [hp]
  dsimp only
  rw [he]

variable (hv : s.mgmt.service = some ⟨r, .commitTaken⟩)
include hv

omit hp in
/-- A commit that finishes leaves its answer with the COMMIT in service. -/
theorem finishCommit_service (status : Nat) (data : List Byte) (hu : u.mgmt = s.mgmt) : finishCommit status data u =
    { u with
      tables := { u.tables with pendingCommit := none }
      mgmt := { s.mgmt with service := some ⟨r, .commitApplied status data⟩ } } := by
  unfold finishCommit State.setInput
  dsimp only
  rw [hu, hv]
  rfl

/-- What a pending commit leaves, but for the derived records. -/
theorem applyCommit_spec : (applyCommit s).tables = (s.tablesAfter id).tables ∧
    (applyCommit s).mgmt = { s.mgmt with service := some ⟨r, .commitApplied (s.commitStatus id) (s.commitData id)⟩ } ∧
    (applyCommit s).portA = s.portA ∧ (applyCommit s).portB = s.portB ∧ (applyCommit s).lines = s.lines := by
  unfold State.tablesAfter State.commitStatus State.commitData
  rcases he : s.commitError id with _ | ⟨code, index⟩
  · have mgmt : (installTable id s).mgmt = s.mgmt := by cases id <;> rfl
    rw [applyCommit_passed hp he, finishCommit_service hv _ _ mgmt]
    cases id <;> exact ⟨rfl, rfl, rfl, rfl, rfl⟩
  · rw [applyCommit_failed hp he, finishCommit_service hv _ _ rfl]
    exact ⟨rfl, rfl, rfl, rfl, rfl⟩

theorem applyCommit_whole (ordered : ∀ c ∈ s.tables.shadow.classes, ∀ x, c = some x → x.band0 ≤ x.bandMax) :
    applyCommit s = { s.derivedAfter id with
      mgmt := { s.mgmt with service := some ⟨r, .commitApplied (s.commitStatus id) (s.commitData id)⟩ } } := by
  unfold State.derivedAfter State.commitStatus State.commitData
  rcases he : s.commitError id with _ | ⟨code, index⟩
  · have mgmt : (installTable id s).mgmt = s.mgmt := by cases id <;> rfl
    have tables : s.tablesAfter id = { s with tables := { s.tables with pendingCommit := none, active := s.installed id } } := by
      unfold State.tablesAfter
      rw [he]
      rfl
    rw [applyCommit_passed hp he, finishCommit_service hv _ _ mgmt, tables]
    cases id with
    | lineMap => rfl
    | sequence => rfl
    | classes =>
      have bands (x : Run) := clampBand_eq (State.classOf_ordered
        (s := { s with tables := { s.tables with pendingCommit := none, active := s.installed .classes } }) ordered x.cls) x.band
      refine congrArg (fun rs : List Run => ({ s with
        tables := { s.tables with pendingCommit := none, active := s.installed .classes }
        tracker := { s.tracker with runs := rs }
        mgmt := { s.mgmt with service := some ⟨r, .commitApplied 0 (1#8 :: copyCounts .classes s.tables.shadow)⟩ } } : State))
        (List.map_congr_left fun x _ => ?_)
      exact congrArg (fun b => { x with band := b }) (bands x)
  · have tables : s.tablesAfter id = { s with tables := { s.tables with pendingCommit := none } } := by
      unfold State.tablesAfter
      rw [he]
      rfl
    rw [applyCommit_failed hp he, finishCommit_service hv _ _ rfl, tables]
    rfl

end Applies

theorem commitError_congr (ht : u.tables = s.tables) (hc : id ≠ .classes ∨ (u.tracker = s.tracker ∧ u.seq = s.seq)) :
    u.commitError id = s.commitError id := by
  cases id with
  | lineMap =>
    show validateMap u.tables.active.seq u.tables.shadow.lineMap = _
    rw [ht]
    rfl
  | sequence =>
    show validateSequence u.tables.active.lineMap u.tables.shadow.seq = _
    rw [ht]
    rfl
  | classes =>
    obtain ⟨tracker, seq⟩ := hc.resolve_left (not_not.2 rfl)
    show validateClasses u u.tables.shadow.classes = _
    have use (c : Nat) : u.classInUse c = s.classInUse c := by
      unfold State.classInUse State.slot
      rw [tracker, seq]
    unfold validateClasses
    simp only [use]
    rw [ht]
    rfl

/-! ### The commit among the parts of a second event -/

theorem secondPart_fieldKept {w : SecondWork} (h : w ≠ .tracker) (hm : s.mgmt.mode ≠ .guarded) : FieldKept s (secondPart s w) := by
  cases w
  case tracker => exact absurd rfl h
  case holdOff => exact tickHoldOff_fieldKept
  case travel => exact tickTravel_fieldKept
  case scan => exact tickScan_fieldKept
  case slots =>
    rw [show secondPart s .slots = s from tickSlots_outside hm]
    exact .refl s

theorem secondParts_fieldKept {ws : List SecondWork} (h : .tracker ∉ ws) (hm : s.mgmt.mode ≠ .guarded) :
    FieldKept s (ws.foldl secondPart s) := by
  induction ws generalizing s with
  | nil => exact .refl s
  | cons w ws ih =>
    obtain ⟨hw, hws⟩ := not_or.1 (mt List.mem_cons.2 h)
    have here := secondPart_fieldKept (s := s) (Ne.symm hw) hm
    exact here.trans (ih hws (by rwa [here.mode]))

/-- What a commit makes is decided by the tables and its first failing check. -/
theorem tablesAfter_congr (ht : u.tables = s.tables) (he : u.commitError id = s.commitError id) :
    (u.tablesAfter id).tables = (s.tablesAfter id).tables ∧ u.commitStatus id = s.commitStatus id ∧
      u.commitData id = s.commitData id := by
  unfold State.tablesAfter State.commitStatus State.commitData State.installed
  dsimp only
  rw [he, ht]
  exact ⟨rfl, rfl, rfl⟩

/-- The derived records touch neither the management nor the clock. -/
theorem derivedAfter_kept : (s.derivedAfter id).mgmt = s.mgmt ∧ (s.derivedAfter id).tracker.clock = s.tracker.clock := by
  unfold State.derivedAfter
  split
  · exact ⟨rfl, rfl⟩
  · cases id <;> exact ⟨rfl, rfl⟩

theorem freePlaces_congr (ha : u.portA = s.portA) (hb : u.portB = s.portB) : u.freePlaces = s.freePlaces := by
  unfold State.freePlaces State.heldPlaces
  rw [ha, hb]

/-- Settles O24. The commit is applied in the Run Tracker's part on the tables as they were, since the parts before it leave what
its validation reads; the parts after it leave the answer to be made. -/
theorem commitAppliesAtSecondEvent : Obligations.CommitAppliesAtSecondEvent := by
  unfold Obligations.CommitAppliesAtSecondEvent
  refine ⟨?commit, fun r code status data args s hp hv hpay hc hw =>
    ⟨fun hf => live_next hp (answerCommit_waits hv hf), fun hf => live_next hp (answerCommit_answers hv hf hpay hc hw)⟩⟩
  intro order id r s hp hw hc hv shadow active after clamped derived status data
  have isTables : s.tablesAfter id = after := by cases id <;> rfl
  have isStatus : s.commitStatus id = status := rfl
  have isData : s.commitData id = data := by
    unfold State.commitData
    simp only [data]
    cases s.commitError id with
    | none => cases id <;> rfl
    | some e => rfl
  have isDerived : s.derivedAfter id = derived := by cases id <;> rfl
  obtain ⟨before, rest, rfl, hb, hr⟩ := SecondWork.exists_split hw
  have whole (ordered : ∀ c ∈ shadow.classes, ∀ x, c = some x → x.band0 ≤ x.bandMax) : applyCommit s =
      { derived with mgmt := { s.mgmt with service := some ⟨r, .commitApplied status data⟩ } } := by
    rw [← isDerived, ← isStatus, ← isData]
    exact applyCommit_whole hc hv ordered
  refine ⟨fun ordered first => ?first, fun known hpay free => ⟨fun quiet => ?tables, fun hm ordered => ?transparent⟩⟩
  case first =>
    obtain rfl : before = [] := by
      cases before with
      | nil => rfl
      | cons w ws => exact absurd (Option.some.inj first) fun e => hb (e ▸ List.mem_cons_self)
    obtain ⟨tables, -, -, -, lines⟩ := applyCommit_spec hc hv
    have powered : (applyCommit s).powered = true := by
      unfold State.powered at hp ⊢
      rwa [lines]
    rw [← whole ordered, exec_secondEvent hp hw, exec_secondEvent powered hw]
    unfold secondEvent
    rw [secondParts_split, secondParts_split]
    exact congrArg (fun v => Host.Outcome.next (answerCommit (rest.foldl secondPart (trackRuns (tickClock v)))))
      (applyCommit_none (s := applyCommit s) (by rw [tables]; rfl)).symm
  case tables =>
    have first := secondParts_timed hb s
    have error : (before.foldl secondPart s).commitError id = s.commitError id :=
      commitError_congr first.tables (quiet.imp_right fun hm => by
        have kept := secondParts_fieldKept hb hm
        exact ⟨kept.tracker, kept.seq⟩)
    obtain ⟨sameTables, sameStatus, sameData⟩ := tablesAfter_congr first.tables error
    obtain ⟨tables, mgmt, portA, portB, lines⟩ :=
      applyCommit_spec (s := before.foldl secondPart s) (first.tables ▸ hc) (first.service.trans hv)
    have last := trackRuns_timed.trans
      (secondParts_timed hr (trackRuns (tickClock (applyCommit (before.foldl secondPart s)))))
    have service : (rest.foldl secondPart (trackRuns (tickClock (applyCommit (before.foldl secondPart s))))).mgmt.service =
        some ⟨r, .commitApplied status data⟩ := by
      refine last.service.trans ((congrArg Mgmt.service mgmt).trans ?_)
      rw [sameStatus, sameData, isStatus, isData]
    have waiting := last.waiting.trans ((congrArg Mgmt.waiting mgmt).trans first.waiting)
    have answers := last.answers.trans ((congrArg PortA.answers portA).trans first.answers)
    have nodes := congrArg Lines.nodeNumber (last.lines.trans (lines.trans first.lines))
    have places := last.freePlaces.trans ((freePlaces_congr (u := tickClock (applyCommit (before.foldl secondPart s))) portA
      portB).trans first.freePlaces)
    refine ⟨(rest.foldl secondPart (trackRuns (tickClock (applyCommit (before.foldl secondPart s))))).answered r 15 status data,
      (exec_secondEvent hp hw).trans (congrArg Host.Outcome.next ?_), ?_, ?_, ?_, ?_⟩
    · unfold secondEvent
      rw [secondParts_split]
      exact answerCommit_answers service (places ▸ free) hpay (by decide) (waiting ▸ known)
    · exact last.tables.trans (tables.trans (sameTables.trans (congrArg State.tables isTables)))
    · show _ ++ _ = _
      rw [answers, nodes]
      rfl
    · exact congrArg (Option.map fun w : Request => (⟨w, .unserved⟩ : Service)) waiting
    · rfl
  case transparent =>
    obtain ⟨-, mgmt, portA, portB, -⟩ := applyCommit_spec hc hv
    rw [isStatus, isData] at mgmt
    have mode : (applyCommit s).mgmt.mode = .transparent := (congrArg Mgmt.mode mgmt).trans hm
    have places := freePlaces_congr (u := tickClock (applyCommit s)) portA portB
    obtain ⟨kept, clock⟩ := derivedAfter_kept (s := s) (id := id)
    rw [isDerived] at kept clock
    rw [exec_secondEvent hp hw]
    unfold secondEvent
    rw [secondParts_split, secondParts_transparent hb hm, trackRuns_transparent (s := tickClock (applyCommit s)) mode,
      secondParts_transparent hr (s := tickClock (applyCommit s)) mode,
      answerCommit_answers (s := tickClock (applyCommit s)) (congrArg Mgmt.service mgmt) (places ▸ free) hpay (by decide)
        ((congrArg Mgmt.waiting mgmt).trans rfl ▸ known)]
    rw [whole ordered]
    unfold State.answered tickClock
    dsimp only
    rw [kept, clock]

end Sys2Proof.Machine
end

section
/-! PROOF. The countdowns of a second event and the expiries that are rows of their own (O29). -/

namespace Sys2Proof.Machine

variable {s u : State} {v : ValveRec} {e : Expected} {p : Nat}

/-! ### One record of a list (by key) -/

/-- Changing the record of a key changes that record alone. -/
theorem map_update_key {α : Type} {key : α → Nat} {before after : List α} {a : α} (hb : ∀ b ∈ before, key b ≠ key a)
    (ha : ∀ b ∈ after, key b ≠ key a) (f : α → α) :
    (before ++ a :: after).map (fun b => if key b = key a then f b else b) = before ++ f a :: after := by
  have same (xs : List α) (h : ∀ b ∈ xs, key b ≠ key a) : xs.map (fun b => if key b = key a then f b else b) = xs :=
    (List.map_congr_left fun b hb => if_neg (h b hb)).trans (List.map_id _)
  rw [List.map_append, List.map_cons, same _ hb, same _ ha, if_pos rfl]

/-- With different keys, no other record has the key of a record. -/
theorem ne_of_nodup_key {α : Type} {key : α → Nat} {before after : List α} {a : α}
    (h : ((before ++ a :: after).map key).Nodup) : (∀ b ∈ before, key b ≠ key a) ∧ ∀ b ∈ after, key b ≠ key a := by
  rw [List.map_append, List.map_cons, List.nodup_middle, List.nodup_cons, ← List.map_append] at h
  have other (b : α) (hb : b ∈ before ++ after) : key b ≠ key a := fun e => h.1 (e ▸ List.mem_map_of_mem hb)
  exact ⟨fun b hb => other b (List.mem_append_left _ hb), fun b hb => other b (List.mem_append_right _ hb)⟩

theorem State.updValve_updValve {f g : ValveRec → ValveRec} (hf : ∀ v, (f v).point = v.point) :
    (s.updValve p f).updValve p g = s.updValve p (fun v => g (f v)) := by
  unfold State.updValve
  refine congrArg s.setValves ?_
  show (s.interlock.valves.map _).map _ = _
  rw [List.map_map]
  refine List.map_congr_left fun v _ => ?_
  simp only [Function.comp_apply]
  by_cases h : v.point = p
  · rw [if_pos h, if_pos ((hf v).trans h), if_pos h]
  · rw [if_neg h, if_neg h, if_neg h]

/-! ### Flow records (R25) -/

theorem FlowRec.aged_live {f : FlowRec} (h : f.state = .live) :
    f.aged = { f with age := f.age - 1, state := if f.age ≤ 1 then .stale else .live } := by
  unfold FlowRec.aged
  rw [h]

theorem FlowRec.aged_not_live {f : FlowRec} (h : f.state ≠ .live) : f.aged = f := by
  unfold FlowRec.aged
  split
  · next e => exact absurd e h
  · rfl

theorem FlowRec.aged_older {f : FlowRec} (h : f.state = .live) (ha : 1 < f.age) : f.aged = { f with age := f.age - 1 } := by
  rw [FlowRec.aged_live h, if_neg (not_le.2 ha), ← h]

theorem FlowRec.aged_last {f : FlowRec} (h : f.state = .live) (ha : f.age ≤ 1) :
    f.aged = { f with age := 0, state := .stale } := by
  rw [FlowRec.aged_live h, if_pos ha, show f.age - 1 = 0 by omega]

/-! ### The travel countdown of one valve (R107) -/

/-- The valve's expected order runs out at the next second. -/
def ValveRec.falls (v : ValveRec) : Bool := v.expected.elim false (fun e => e.remaining == 1)

/-- The record after one second of its expected order. -/
def ValveRec.ticked (v : ValveRec) : ValveRec :=
  match v.expected with
  | none => v
  | some e =>
    if e.remaining = 0 then v
    else if e.remaining = 1 then { v with suspect := true, expected := none }
    else { v with expected := some { e with remaining := e.remaining - 1 } }

/-- The log after one second of a valve's expected order. -/
def State.mismatchLog (s : State) (g : EventLog) (v : ValveRec) : EventLog :=
  match v.expected with
  | none => g
  | some e => if e.remaining = 1 then g.offer s.mgmt.config.logMode
      (s.record .valveMismatch 0 v.point e.originator.number (e.target.code * 256 + v.percent)) else g

theorem tickValve_still (h : (s.valve p).bind ValveRec.expected = none) : tickValve s p = s := by
  unfold tickValve
  rw [h]

theorem tickValve_ended (h : (s.valve p).bind ValveRec.expected = some e) (hr : e.remaining = 0) : tickValve s p = s := by
  unfold tickValve
  rw [h]
  exact if_pos hr

theorem tickValve_counts (h : (s.valve p).bind ValveRec.expected = some e) (h0 : e.remaining ≠ 0) (h1 : e.remaining ≠ 1) :
    tickValve s p = s.updValve p (fun v => { v with expected := some { e with remaining := e.remaining - 1 } }) := by
  unfold tickValve
  rw [h]
  exact (if_neg h0).trans (if_neg h1)

theorem tickValve_falls (hv : s.valve p = some v) (he : v.expected = some e) (hr : e.remaining = 1) : tickValve s p =
    { (raise 7 s).updValve p (fun v => { v with suspect := true, expected := none }) with
      log := s.logWith (s.record .valveMismatch 0 p e.originator.number (e.target.code * 256 + v.percent)) } := by
  have expected : (s.valve p).bind ValveRec.expected = some e := by rw [hv]; exact he
  have found : (s.updValve p fun v => { v with expected := some { e with remaining := e.remaining - 1 } }).valve p =
      some { v with expected := some { e with remaining := e.remaining - 1 } } := by
    have reads := s.valve_updValve p p (fun v => { v with expected := some { e with remaining := e.remaining - 1 } }) fun _ => rfl
    refine reads.trans ((if_pos rfl).trans ?_)
    rw [hv]
    rfl
  unfold tickValve
  rw [expected]
  refine ((if_neg (by omega)).trans (if_pos hr)).trans ?_
  unfold mismatchValve
  rw [found]
  have whole := State.updValve_updValve (s := raise 7 s) (p := p)
    (f := fun v => { v with expected := some { e with remaining := e.remaining - 1 } })
    (g := fun v => { v with suspect := true, expected := none }) fun _ => rfl
  exact congrArg (fun t : State =>
    { t with log := s.logWith (s.record .valveMismatch 0 p e.originator.number (e.target.code * 256 + v.percent)) }) whole

/-! ### The travel countdowns at a second event -/

/-- What the countdowns of some valves leave beside the valve records. -/
structure Travelled (s u : State) (vs : List ValveRec) : Prop where
  mgmt : u.mgmt = { s.mgmt with
    conditions := if vs.any ValveRec.falls then s.mgmt.conditions ||| condBit 7 else s.mgmt.conditions }
  log : u.log = vs.foldl s.mismatchLog s.log
  tracker : u.tracker = s.tracker
  matcher : u.matcher = s.matcher
  seq : u.seq = s.seq
  scan : u.scan = s.scan
  tables : u.tables = s.tables
  portB : u.portB = s.portB

theorem condBit_or_or (w : BitVec 13) (c : Nat) : w ||| condBit c ||| condBit c = w ||| condBit c := by
  rw [BitVec.or_assoc, BitVec.or_self]

theorem Travelled.refl (s : State) : Travelled s s [] := by constructor <;> rfl

theorem Travelled.cons {vs : List ValveRec} {t : State} (h : Travelled s t [v]) (g : Travelled t u vs) :
    Travelled s u (v :: vs) where
  mgmt := by
    rw [g.mgmt, h.mgmt, List.any_cons, List.any_cons, List.any_nil, Bool.or_false]
    cases v.falls <;> cases vs.any ValveRec.falls <;> simp [condBit_or_or]
  log := by
    have same : t.mismatchLog = s.mismatchLog := by
      funext l x
      unfold State.mismatchLog State.record
      rw [h.tracker, h.mgmt]
    rw [g.log, h.log, same]
    rfl
  tracker := g.tracker.trans h.tracker
  matcher := g.matcher.trans h.matcher
  seq := g.seq.trans h.seq
  scan := g.scan.trans h.scan
  tables := g.tables.trans h.tables
  portB := g.portB.trans h.portB

/-- A change of the valve records alone, for a valve whose order does not run out. -/
theorem Travelled.of_setValves (vs : List ValveRec) (hf : v.falls = false) (hl : s.mismatchLog s.log v = s.log) :
    Travelled s (s.setValves vs) [v] where
  mgmt := by rw [List.any_cons, hf]; rfl
  log := hl.symm
  tracker := rfl
  matcher := rfl
  seq := rfl
  scan := rfl
  tables := rfl
  portB := rfl

theorem tickValve_split {before after : List ValveRec} (hv : s.interlock.valves = before ++ v :: after)
    (hn : (s.interlock.valves.map ValveRec.point).Nodup) :
    (tickValve s v.point).interlock.valves = before ++ v.ticked :: after ∧ Travelled s (tickValve s v.point) [v] := by
  rw [hv] at hn
  obtain ⟨hb, ha⟩ := ne_of_nodup_key hn
  have found : s.valve v.point = some v := by
    unfold State.valve
    rw [hv]
    exact (find?_key_split hb).1
  have updated (f : ValveRec → ValveRec) :
      s.interlock.valves.map (fun x => if x.point = v.point then f x else x) = before ++ f v :: after := by
    rw [hv]
    exact map_update_key hb ha f
  have expected : (s.valve v.point).bind ValveRec.expected = v.expected := by rw [found]; rfl
  unfold ValveRec.ticked
  cases he : v.expected with
  | none =>
    rw [tickValve_still (expected.trans he)]
    exact ⟨hv, .of_setValves s.interlock.valves (by rw [ValveRec.falls, he]; rfl) (by rw [State.mismatchLog, he])⟩
  | some e =>
    by_cases h0 : e.remaining = 0
    · rw [tickValve_ended (expected.trans he) h0]
      refine ⟨hv.trans ?_, .of_setValves s.interlock.valves (by simp [ValveRec.falls, he, h0])
        (by simp [State.mismatchLog, he, h0])⟩
      simp [h0]
    by_cases h1 : e.remaining = 1
    · rw [tickValve_falls found he h1]
      refine ⟨(updated _).trans ?_, ?_, ?_, rfl, rfl, rfl, rfl, rfl, rfl⟩
      · simp [h1]
      · simp [ValveRec.falls, he, h1, State.updValve, State.setValves]
      · simp [State.mismatchLog, he, h1, State.logWith, State.record]
    · rw [tickValve_counts (expected.trans he) h0 h1]
      refine ⟨(updated _).trans ?_, .of_setValves _ (by simp [ValveRec.falls, he, h1]) (by simp [State.mismatchLog, he, h1])⟩
      simp [h0, h1]

theorem ValveRec.ticked_point : v.ticked.point = v.point := by
  unfold ValveRec.ticked
  split
  · rfl
  · split_ifs <;> rfl

theorem tickValves_fold {before vs : List ValveRec} (hv : s.interlock.valves = before ++ vs)
    (hn : (s.interlock.valves.map ValveRec.point).Nodup) :
    ((vs.map ValveRec.point).foldl tickValve s).interlock.valves = before ++ vs.map ValveRec.ticked ∧
      Travelled s ((vs.map ValveRec.point).foldl tickValve s) vs := by
  induction vs generalizing before s with
  | nil => exact ⟨hv, .refl s⟩
  | cons v vs ih =>
    obtain ⟨valves, first⟩ := tickValve_split hv hn
    have valves' : (tickValve s v.point).interlock.valves = (before ++ [v.ticked]) ++ vs := by rw [valves, List.append_assoc]; rfl
    obtain ⟨last, rest⟩ := ih valves' (by
      rw [valves, List.map_append, List.map_cons, ValveRec.ticked_point, ← List.map_cons, ← List.map_append, ← hv]
      exact hn)
    refine ⟨last.trans ?_, first.cons rest⟩
    rw [List.append_assoc]
    rfl

/-! ### The expiries of their own -/

theorem exec_point {c : Instr} {f : State → State} (hp : s.powered = true) (h : p < 64)
    (hc : exec c s = ifWf (pointWf p) (live f s)) : exec c s = .next (f s) := by
  rw [hc, ifWf_true (show pointWf p = true from decide_eq_true h), live_eq hp]

/-- Settles O29. The countdowns of the valves fall one after another, each in its own record. -/
theorem countdownsExpire : Obligations.CountdownsExpire := by
  unfold Obligations.CountdownsExpire
  refine ⟨fun f => ⟨FlowRec.aged_older, FlowRec.aged_last, FlowRec.aged_not_live⟩, fun s => ⟨fun hm => ?still, fun hm => ?ticks⟩,
    fun p s hp h hm => ⟨fun f hf hl => ?flow, fun d hd => ?detector, fun v e hv he => ⟨fun hr => ?waits, fun hr => ?falls⟩⟩⟩
  case still => exact ⟨if_pos hm, if_pos hm, if_pos (by rw [hm]; rfl)⟩
  case ticks =>
    have scans : tickScan s = if s.scan.countdown = 0 then s else if s.scan.countdown = 1 then roundAndReload s
        else s.setScanCountdown (s.scan.countdown - 1) := by
      unfold tickScan
      simp [hm]
    refine ⟨?_, fun h0 => scans.trans (if_pos h0), fun h2 => ?_, fun h1 hp => ?_, fun hn => ?_⟩
    · refine (if_neg hm).trans (congrArg s.setDetectors (List.map_congr_left fun d _ => ?_))
      split
      · next h0 => rw [h0]
      · rfl
    · exact scans.trans ((if_neg (by omega)).trans (if_neg (by omega)))
    · refine live_next hp (Eq.trans ?_ (scans.trans ((if_neg (by omega)).trans (if_pos h1))).symm)
      exact if_pos ⟨hm, h1⟩
    · intro falls t
      have folded : t = (s.interlock.valves.map ValveRec.point).foldl tickValve s := if_neg hm
      obtain ⟨valves, mgmt, log, tracker, matcher, seq, scan, tables, portB⟩ := tickValves_fold (before := []) rfl hn
      rw [← folded] at valves mgmt log tracker matcher seq scan tables portB
      exact ⟨valves, mgmt, log, tracker, matcher, seq, scan, tables, portB⟩
  case flow =>
    have point (f : FlowRec) : (if f.expires then f.aged else f).point = f.point := by
      split
      · exact f.aged_point
      · rfl
    have flows := State.flow_updFlow s p (f := fun f => if f.expires then f.aged else f) (hf := point)
    refine ⟨_, (exec_point (f := expireFlow p) hp h rfl).trans (congrArg Host.Outcome.next (if_neg hm)), ?_, fun q hq => ?_, rfl, rfl, rfl⟩
    · rw [flows, if_pos rfl, hf]
      refine congrArg some ?_
      by_cases ha : f.age ≤ 1
      · rw [if_pos ha]
        exact (if_pos (by simp [FlowRec.expires, hl, ha])).trans (FlowRec.aged_last hl ha)
      · rw [if_neg ha]
        exact if_neg (by simp [FlowRec.expires, ha])
    · rw [flows, if_neg hq]
  case detector =>
    have point (d : DetectorRec) : (if d.holdOff = 1 then { d with holdOff := 0 } else d).point = d.point := by split <;> rfl
    have detectors := State.detector_updDetector s p (f := fun d => if d.holdOff = 1 then { d with holdOff := 0 } else d)
      (hf := point)
    refine ⟨_, (exec_point (f := expireHoldOff p) hp h rfl).trans (congrArg Host.Outcome.next (if_neg hm)), ?_, fun q hq => ?_, rfl, rfl, rfl⟩
    · rw [detectors, if_pos rfl, hd]
      rfl
    · rw [detectors, if_neg hq]
  all_goals
    have due : s.mismatchDue p = (e.remaining == 1) := by
      unfold State.mismatchDue
      rw [hv, Option.bind_some, he]
      rfl
  case waits =>
    refine (exec_point (f := expireValve p) hp h rfl).trans (congrArg Host.Outcome.next (if_neg fun both => hr ?_))
    rw [due] at both
    exact beq_iff_eq.1 both.2
  case falls =>
    have done : expireValve p s = tickValve s p := if_pos ⟨hm, by rw [due, hr]; rfl⟩
    rw [tickValve_falls hv he hr] at done
    have valves := State.valve_updValve (raise 7 s) p (f := fun v => { v with suspect := true, expected := none })
      (hf := fun _ => rfl)
    refine ⟨_, (exec_point (f := expireValve p) hp h rfl).trans (congrArg Host.Outcome.next done), ?_, fun q hq => ?_, rfl, rfl, rfl, rfl⟩
    · refine (valves p).trans ((if_pos rfl).trans ?_)
      rw [show (raise 7 s).valve p = s.valve p from rfl, hv]
      rfl
    · exact (valves q).trans (if_neg hq)

end Sys2Proof.Machine
end

section
/-! PROOF. The start of a round (O30). -/

namespace Sys2Proof.Machine

variable {s u : State} {r : NodeRec} {p : Nat}

/-! ### The silence of valves -/

/-- A valve record that nothing is believed of. -/
def ValveRec.lost (v : ValveRec) : ValveRec := { v with state := .unknown, location := .unknown }

/-- The log after a valve lost its state. -/
def State.valveLostLog (s : State) (g : EventLog) (p : Nat) : EventLog :=
  (s.valve p).elim g (fun v =>
    if v.state = .unknown ∧ v.location = .unknown then g
    else g.offer s.mgmt.config.logMode
      (s.record .valveStateChanged 0 p (slotNumber v.reserving) (2 * 256 + v.state.code * 16)))

theorem silenceValve_eq : silenceValve s p =
    { s with
      interlock := { valves := s.interlock.valves.map (fun v => if v.point = p then v.lost else v) }
      log := s.valveLostLog s.log p } := by
  unfold silenceValve State.valveLostLog
  cases hv : s.valve p with
  | none =>
    have same : s.interlock.valves.map (fun v => if v.point = p then v.lost else v) = s.interlock.valves :=
      (List.map_congr_left fun v hm => if_neg (by simpa using List.find?_eq_none.1 hv v hm)).trans (List.map_id _)
    rw [same]
    rfl
  | some v =>
    dsimp only [Option.elim_some]
    by_cases h : v.state = .unknown ∧ v.location = .unknown
    · rw [if_pos h, if_neg (by simp [h.1, h.2])]
      rfl
    · rw [if_neg h, if_pos (by simpa [imp_iff_not_or] using h)]
      rfl

theorem silenceValve_valve {q : Nat} (h : q ≠ p) : (silenceValve s p).valve q = s.valve q := by
  rw [silenceValve_eq]
  exact (State.valve_updValve s p q ValveRec.lost fun _ => rfl).trans (if_neg h)

theorem silenceValves_eq {ps : List Nat} (hn : ps.Nodup) : ps.foldl silenceValve s =
    { s with
      interlock := { valves := s.interlock.valves.map (fun v => if v.point ∈ ps then v.lost else v) }
      log := ps.foldl s.valveLostLog s.log } := by
  induction ps generalizing s with
  | nil =>
    simp only [List.not_mem_nil, if_false, List.map_id']
    rfl
  | cons p ps ih =>
    obtain ⟨hp, hn⟩ := List.nodup_cons.1 hn
    rw [List.foldl_cons, ih hn, List.foldl_cons]
    have logs : ps.foldl (silenceValve s p).valveLostLog (silenceValve s p).log =
        ps.foldl s.valveLostLog (s.valveLostLog s.log p) := by
      rw [show (silenceValve s p).log = s.valveLostLog s.log p by rw [silenceValve_eq]]
      refine List.foldl_ext _ _ _ fun g q hq => ?_
      unfold State.valveLostLog
      rw [silenceValve_valve fun e : q = p => hp (e ▸ hq), silenceValve_eq]
      rfl
    have valves : (silenceValve s p).interlock.valves.map (fun v => if v.point ∈ ps then v.lost else v) =
        s.interlock.valves.map (fun v => if v.point ∈ p :: ps then v.lost else v) := by
      rw [silenceValve_eq]
      show (s.interlock.valves.map _).map _ = _
      rw [List.map_map]
      refine List.map_congr_left fun v _ => ?_
      simp only [Function.comp_apply, List.mem_cons]
      by_cases e : v.point = p
      · simp [e]
        exact fun _ => rfl
      · simp [e]
    rw [logs, valves, silenceValve_eq]

/-! ### The silence of a node (R155) -/

theorem indicesOf_nodup (m : List Point) (f : Point → Bool) : (indicesOf m f).Nodup :=
  List.nodup_range.filter _

/-- The log after a node fell silent. -/
def State.nodeLostLog (s : State) (g : EventLog) (r : NodeRec) : EventLog :=
  (pointsOfNode s.map r.node Point.isValve).foldl s.valveLostLog
    (g.offer s.mgmt.config.logMode
      (s.record .nodeSilent 0 (lowestPointOf s.map r.node) 255 (r.health.code * 256 + r.node)))

theorem silenceNode_eq : silenceNode r s =
    { raise 6 s with
      matcher := { detectors := s.matcher.detectors.map (fun d =>
        if (pointsOfNode s.map r.node Point.isDetector).contains d.point then { d with covered := false } else d) }
      interlock := { valves := s.interlock.valves.map (fun v =>
        if v.point ∈ pointsOfNode s.map r.node Point.isValve then v.lost else v) }
      log := s.nodeLostLog s.log r } := by
  unfold silenceNode
  exact silenceValves_eq (indicesOf_nodup _ _)

/-! ### The records of a round (R154) -/

/-- The node falls silent in this round. -/
def NodeRec.falls (r : NodeRec) : Bool := !r.heard && !r.silent && decide (2 ≤ r.missed)

/-- The record after it was counted in a round. -/
def NodeRec.counted (r : NodeRec) : NodeRec :=
  if r.heard then r else { r with missed := min 3 (r.missed + 1), silent := r.silent || decide (2 ≤ r.missed) }

/-- A point carries a node that falls silent. -/
def silencedBy (m : List Point) (rs : List NodeRec) (p : Nat) : Bool :=
  rs.any (fun r => r.falls && ((m[p]?).bind Point.node == some r.node))

theorem silencedBy_concat {m : List Point} {rs : List NodeRec} : silencedBy m (rs ++ [r]) p =
    (silencedBy m rs p || (r.falls && ((m[p]?).bind Point.node == some r.node))) := by
  unfold silencedBy
  rw [List.any_append, List.any_cons, List.any_nil, Bool.or_false]

/-- What a round has made once some of the nodes are counted. -/
structure RoundOf (s u : State) (done todo : List NodeRec) : Prop where
  scan : u.scan = { s.scan with nodes := done.map NodeRec.counted ++ todo }
  detectors : u.matcher.detectors = s.matcher.detectors.map (fun d =>
    if silencedBy s.map done d.point then { d with covered := false } else d)
  valves : u.interlock.valves = s.interlock.valves.map (fun v => if silencedBy s.map done v.point then v.lost else v)
  log : u.log = (done.filter NodeRec.falls).foldl s.nodeLostLog s.log
  mgmt : u.mgmt = { s.mgmt with
    conditions := if done.any NodeRec.falls then s.mgmt.conditions ||| condBit 6 else s.mgmt.conditions }
  kept : FieldKept s u

theorem RoundOf.start (s : State) : RoundOf s s [] s.scan.nodes where
  scan := rfl
  detectors := (List.map_id _).symm
  valves := (List.map_id _).symm
  log := rfl
  mgmt := rfl
  kept := .refl s

section Step
variable {done todo : List NodeRec} (h : RoundOf s u done (r :: todo)) (hn : s.scan.nodes = done ++ r :: todo)
  (hd : (s.scan.nodes.map NodeRec.node).Nodup)
include h hn hd

theorem RoundOf.node : u.node r.node = some r := by
  rw [hn] at hd
  obtain ⟨before, -⟩ := ne_of_nodup_key hd
  unfold State.node
  rw [h.scan]
  refine (find?_key_split (key := NodeRec.node) fun x hx => ?_).1
  obtain ⟨y, hy, rfl⟩ := List.mem_map.1 hx
  unfold NodeRec.counted
  split <;> exact before y hy

theorem RoundOf.counts (hh : r.heard = false) : (u.updNode r.node fun x =>
    { x with missed := min 3 (x.missed + 1), silent := x.silent || decide (2 ≤ x.missed) }).scan =
      { s.scan with nodes := (done ++ [r]).map NodeRec.counted ++ todo } := by
  rw [hn] at hd
  obtain ⟨before, after⟩ := ne_of_nodup_key hd
  have others (x : NodeRec) (hx : x ∈ done.map NodeRec.counted) : x.node ≠ r.node := by
    obtain ⟨y, hy, rfl⟩ := List.mem_map.1 hx
    unfold NodeRec.counted
    split <;> exact before y hy
  have counted : r.counted = { r with missed := min 3 (r.missed + 1), silent := r.silent || decide (2 ≤ r.missed) } := by
    unfold NodeRec.counted
    rw [hh]
    rfl
  have updated := map_update_key (key := NodeRec.node) others after fun x =>
    { x with missed := min 3 (x.missed + 1), silent := x.silent || decide (2 ≤ x.missed) }
  unfold State.updNode State.setNodes
  dsimp only
  rw [h.scan]
  refine congrArg (fun ns => ({ s.scan with nodes := ns } : Scan)) (updated.trans ?_)
  rw [List.map_append, List.append_assoc, List.map_singleton, counted]
  rfl

omit hn hd in
/-- A node that does not fall silent is counted alone. -/
theorem RoundOf.step_still (hf : r.falls = false) {t : State} (scan : t.scan = { s.scan with
    nodes := (done ++ [r]).map NodeRec.counted ++ todo }) (kept : FieldKept u t) (matcher : t.matcher = u.matcher)
    (interlock : t.interlock = u.interlock) (log : t.log = u.log) (mgmt : t.mgmt = u.mgmt) : RoundOf s t (done ++ [r]) todo where
  scan := scan
  detectors := by
    rw [matcher, h.detectors]
    simp only [silencedBy_concat, hf, Bool.false_and, Bool.or_false]
  valves := by
    rw [interlock, h.valves]
    simp only [silencedBy_concat, hf, Bool.false_and, Bool.or_false]
  log := by rw [log, h.log, List.filter_append, List.filter_cons_of_neg (by rw [hf]; exact Bool.false_ne_true), List.filter_nil, List.append_nil]
  mgmt := by rw [mgmt, h.mgmt, List.any_append, List.any_cons, List.any_nil, hf, Bool.or_false, Bool.or_false]
  kept := h.kept.trans kept

variable (hr : s.RecordsFollowMap)
include hr

/-- A node that falls silent loses its detectors and its valves. -/
theorem RoundOf.step_falls (hf : r.falls = true) {t : State} (scan : t.scan = { s.scan with
    nodes := (done ++ [r]).map NodeRec.counted ++ todo }) (kept : FieldKept u t) (matcher : t.matcher = u.matcher)
    (interlock : t.interlock = u.interlock) (log : t.log = u.log) (mgmt : t.mgmt = u.mgmt) :
    RoundOf s (silenceNode r t) (done ++ [r]) todo := by
  obtain ⟨valvePoints, detectorPoints, -⟩ := hr
  rw [hn] at hd
  obtain ⟨before, -⟩ := ne_of_nodup_key hd
  have map : t.map = s.map := by
    unfold State.map
    rw [kept.tables, h.kept.tables]
  have fresh {q : Nat} (hq : (s.map[q]?).bind Point.node = some r.node) : silencedBy s.map done q = false := by
    refine List.any_eq_false.2 fun x hx e => ?_
    rw [Bool.and_eq_true, hq, beq_iff_eq, Option.some.injEq] at e
    exact before x hx e.2.symm
  have carried {f : Point → Bool} {q : Nat} (hq : q ∈ indicesOf s.map f) :
      q ∈ pointsOfNode s.map r.node f ↔ (s.map[q]?).bind Point.node = some r.node := mem_pointsOfNode hq
  have all : (done ++ [r]).any NodeRec.falls = true := by
    rw [List.any_append, List.any_cons, hf]
    simp
  rw [silenceNode_eq, map]
  refine ⟨scan, ?_, ?_, ?_, ?_, ?_⟩
  · show t.matcher.detectors.map _ = _
    rw [matcher, h.detectors, List.map_map]
    refine List.map_congr_left fun d hm => ?_
    have point := carried (detectorPoints ▸ List.mem_map_of_mem (f := DetectorRec.point) hm)
    simp only [Function.comp_apply, silencedBy_concat, hf, Bool.true_and, List.contains_iff_mem]
    by_cases hb : (s.map[d.point]?).bind Point.node = some r.node
    · rw [fresh hb]
      simp [point.2 hb, hb]
    · have out := mt point.1 hb
      cases silencedBy s.map done d.point <;> simp [out, hb]
  · show t.interlock.valves.map _ = _
    rw [interlock, h.valves, List.map_map]
    refine List.map_congr_left fun v hm => ?_
    have point := carried (valvePoints ▸ List.mem_map_of_mem (f := ValveRec.point) hm)
    simp only [Function.comp_apply, silencedBy_concat, hf, Bool.true_and]
    by_cases hb : (s.map[v.point]?).bind Point.node = some r.node
    · rw [fresh hb]
      simp [point.2 hb, hb]
    · have out := mt point.1 hb
      cases silencedBy s.map done v.point <;> simp [out, hb, ValveRec.lost]
  · have same {q : Nat} (hq : q ∈ pointsOfNode s.map r.node Point.isValve) : t.valve q = s.valve q := by
      obtain ⟨x, hx, names⟩ := mem_indicesOf.1 hq
      rw [Bool.and_eq_true, beq_iff_eq] at names
      have node : (s.map[q]?).bind Point.node = some r.node := by rw [hx]; exact names.2
      have lookup : t.valve q = (s.valve q).map fun v => if silencedBy s.map done v.point then v.lost else v := by
        have found := State.valve_setValves_map (s := s) (f := fun v => if silencedBy s.map done v.point then v.lost else v)
          (fun v => by split <;> rfl) q
        unfold State.valve at found ⊢
        rw [interlock, h.valves]
        exact found
      rw [lookup]
      cases hv : s.valve q with
      | none => rfl
      | some v => exact congrArg some (if_neg (by rw [(s.valve_mem hv).2, fresh node]; exact Bool.false_ne_true))
    show t.nodeLostLog t.log r = _
    rw [List.filter_append, List.filter_cons_of_pos hf, List.filter_nil, List.foldl_append, ← h.log, ← log]
    unfold State.nodeLostLog State.record
    rw [map, kept.config, h.kept.config, kept.tracker, h.kept.tracker]
    refine List.foldl_ext _ _ _ fun g q hq => ?_
    unfold State.valveLostLog State.record
    rw [same hq, kept.config, h.kept.config, kept.tracker, h.kept.tracker]
  · show { t.mgmt with conditions := t.mgmt.conditions ||| condBit 6 } = _
    rw [mgmt, h.mgmt, all]
    cases done.any NodeRec.falls
    · rfl
    · simp [condBit_or_or]
  · rw [← map, ← silenceNode_eq]
    exact (h.kept.trans kept).trans (silenceNode_fieldKept r)

theorem RoundOf.step : RoundOf s (missRound u r.node) (done ++ [r]) todo := by
  unfold missRound
  rw [h.node hn hd]
  dsimp only
  cases hh : r.heard with
  | true =>
    have counted : r.counted = r := by
      unfold NodeRec.counted
      rw [hh]
      rfl
    refine h.step_still (by rw [NodeRec.falls, hh]; rfl) (h.scan.trans ?_) (.refl u) rfl rfl rfl rfl
    rw [List.map_append, List.append_assoc, List.map_singleton, counted]
    rfl
  | false =>
    have scan := h.counts hn hd hh
    rw [if_neg Bool.false_ne_true]
    by_cases hf : 2 ≤ r.missed ∧ r.silent = false
    · rw [if_pos hf]
      exact h.step_falls hn hd hr (by simp [NodeRec.falls, hh, hf.1, hf.2]) scan (setNodes_fieldKept _) rfl rfl rfl rfl
    · rw [if_neg hf]
      refine h.step_still ?_ scan (setNodes_fieldKept _) rfl rfl rfl rfl
      rw [NodeRec.falls, hh]
      cases hs : r.silent with
      | true => rfl
      | false => simpa [hs] using hf

end Step

theorem RoundOf.all (hr : s.RecordsFollowMap) (hd : (s.scan.nodes.map NodeRec.node).Nodup) {done todo : List NodeRec}
    (h : RoundOf s u done todo) (hn : s.scan.nodes = done ++ todo) :
    RoundOf s ((todo.map NodeRec.node).foldl missRound u) s.scan.nodes [] := by
  induction todo generalizing done u with
  | nil => rwa [hn, List.append_nil]
  | cons r todo ih => exact ih (h.step hn hd hr) (by rw [hn, List.append_assoc]; rfl)

/-- The head of the points that carry a node is the lowest of them. -/
theorem lowestPointOf_eq (m : List Point) (n : Nat) : lowestPointOf m n =
    ((List.range m.length).find? (fun p => (m[p]?).bind Point.node == some n)).getD 255 := by
  unfold lowestPointOf indicesOf
  rw [List.head?_filter]
  refine congrArg (fun f => ((List.range m.length).find? f).getD 255) (funext fun p => ?_)
  cases m[p]? <;> rfl

/-- Settles O30. The nodes are counted in record order; each that falls silent takes the detectors and valves of its own points. -/
theorem roundCountsMisses : Obligations.RoundCountsMisses := by
  intro s hp hm h1 hr falls silenced offered valveLost nodeLost
  have nodes : s.scan.nodes.map NodeRec.node = supervisedNodes s.map := hr.2.2.2.1
  have nodup : (s.scan.nodes.map NodeRec.node).Nodup := by rw [nodes]; exact supervisedNodes_nodup _
  have round := (RoundOf.start s).all hr nodup (List.nil_append _).symm
  have counted : ((s.scan.nodes.map NodeRec.node).foldl missRound s).scan.nodes = s.scan.nodes.map NodeRec.counted := by
    rw [round.scan, List.append_nil]
  have keys : ((s.scan.nodes.map NodeRec.counted).map fun r : NodeRec =>
      { r with missed := if r.heard then 0 else r.missed, heard := false }).map NodeRec.node = supervisedNodes s.map := by
    rw [← nodes, List.map_map, List.map_map]
    refine List.map_congr_left fun r _ => ?_
    simp only [Function.comp_apply, NodeRec.counted]
    split <;> rfl
  have whole := roundAndReload_fieldKept (s := s)
  refine ⟨roundAndReload s, live_next hp (if_pos ⟨hm, h1⟩), ?_, ?_, ?_, round.mgmt, round.log.trans ?_, round.detectors, round.valves,
    whole.tracker, whole.seq, whole.tables, whole.portB, whole.lines⟩
  · rfl
  · refine Eq.trans ?_ keys
    rw [← counted]
    rfl
  · show List.map _ ((s.scan.nodes.map NodeRec.node).foldl missRound s).scan.nodes = _
    rw [counted, List.map_map]
    refine List.map_congr_left fun r _ => ?_
    simp only [Function.comp_apply, NodeRec.counted]
    by_cases hh : r.heard = true <;> simp [hh]
  · refine List.foldl_ext _ _ _ fun g r _ => ?_
    unfold State.nodeLostLog
    rw [lowestPointOf_eq]
    rfl

end Sys2Proof.Machine
end

section
/-! PROOF. The alarm of a run event, and the stall of a run (O28). -/

namespace Sys2Proof.Machine

variable {s u : State} {r : Run} {raised : AnomalySet}

/-! ### The alarm (R48) -/

/-- The alarm freezes the log. -/
abbrev State.AlarmFreezes (s : State) (raised : AnomalySet) : Prop :=
  raised &&& s.mgmt.config.alarmMask ≠ 0#11 ∧ s.mgmt.config.freezeOnAlarm = true ∧ s.mgmt.config.logMode ≠ .off ∧
    s.log.frozen = false

/-- The log after the ANOMALY ALARM record. -/
def State.alarmLog (s : State) (r : Run) (raised : AnomalySet) : EventLog :=
  if raised &&& s.mgmt.config.alarmMask = 0#11 then s.log
  else s.logWith (s.record .anomalyAlarm r.id (if raised &&& anZone = 0#11 then 255 else r.zoneValve.getD 255)
    (slotNumber r.bound) (raised &&& s.mgmt.config.alarmMask).toNat)

theorem alarmOf_quiet (h : raised &&& s.mgmt.config.alarmMask = 0#11) : alarmOf r raised s = s := if_pos h

/-- An alarm that does not freeze the log. -/
theorem alarmOf_tells (h : raised &&& s.mgmt.config.alarmMask ≠ 0#11) (hf : ¬ s.AlarmFreezes raised) :
    alarmOf r raised s = { raise 0 s with log := s.alarmLog r raised } := by
  have log : s.alarmLog r raised = s.logWith (s.record .anomalyAlarm r.id
      (if raised &&& anZone = 0#11 then 255 else r.zoneValve.getD 255) (slotNumber r.bound)
      (raised &&& s.mgmt.config.alarmMask).toNat) := if_neg h
  rw [log]
  refine (if_neg h).trans ?_
  by_cases hc : s.mgmt.config.freezeOnAlarm = true
  · refine (if_pos hc).trans (if_pos ?_)
    have still : s.mgmt.config.logMode = .off ∨ s.log.frozen = true := by
      by_contra both
      obtain ⟨mode, frozen⟩ := not_or.1 both
      exact hf ⟨h, hc, mode, Bool.eq_false_iff.2 frozen⟩
    rw [Bool.or_eq_true, decide_eq_true_eq]
    exact still.symm.imp_left fun frozen => (EventLog.offer_frozen _ _ _).trans frozen
  · exact if_neg hc

/-- An alarm that freezes the log. -/
theorem alarmOf_freezes (hf : s.AlarmFreezes raised) :
    alarmOf r raised s = raise 11 { raise 0 s with log := { s.alarmLog r raised with frozen := true } } := by
  obtain ⟨h, hc, mode, frozen⟩ := hf
  have log : s.alarmLog r raised = s.logWith (s.record .anomalyAlarm r.id
      (if raised &&& anZone = 0#11 then 255 else r.zoneValve.getD 255) (slotNumber r.bound)
      (raised &&& s.mgmt.config.alarmMask).toNat) := if_neg h
  rw [log]
  refine (if_neg h).trans ((if_pos hc).trans (if_neg ?_))
  rw [Bool.or_eq_true, decide_eq_true_eq, not_or]
  refine ⟨?_, mode⟩
  show ¬ (EventLog.offer _ _ _).frozen = true
  rw [EventLog.offer_frozen]
  show ¬ s.log.frozen = true
  rw [frozen]
  exact Bool.false_ne_true

/-- The conditions and the log after the alarm of a run event. -/
theorem alarmOf_spec : (alarmOf r raised s).mgmt = { s.mgmt with
      conditions := s.mgmt.conditions ||| (if raised &&& s.mgmt.config.alarmMask = 0#11 then 0#13 else condBit 0) |||
        (if s.AlarmFreezes raised then condBit 11 else 0#13) } ∧
    (alarmOf r raised s).log = if s.AlarmFreezes raised then { s.alarmLog r raised with frozen := true }
      else s.alarmLog r raised := by
  by_cases h : raised &&& s.mgmt.config.alarmMask = 0#11
  · have still : ¬ s.AlarmFreezes raised := fun hf => hf.1 h
    rw [alarmOf_quiet h, if_pos h, if_neg still, if_neg still, BitVec.or_zero, BitVec.or_zero]
    exact ⟨rfl, (if_pos h).symm⟩
  by_cases hf : s.AlarmFreezes raised
  · rw [alarmOf_freezes hf, if_neg h, if_pos hf, if_pos hf]
    exact ⟨rfl, rfl⟩
  · rw [alarmOf_tells h hf, if_neg h, if_neg hf, if_neg hf, BitVec.or_zero]
    exact ⟨rfl, rfl⟩

/-- An alarm leaves RUN ALARM set. -/
theorem alarmOf_runAlarm (h : raised &&& s.mgmt.config.alarmMask ≠ 0#11) :
    (alarmOf r raised s).mgmt.conditions.getLsbD 0 = true := by
  rw [alarmOf_spec.1, if_neg h]
  simp [condBit]

theorem endRunEvent_eq : endRunEvent r raised s =
    alarmOf r raised (s.updRun r.id (fun _ => r.afterEvent s.mgmt.config.alarmMask raised)) := rfl

/-! ### The halt (R43) -/

section Halt
variable {c : PigClass} {a : Advance}

theorem haltRun_moved (h : 0 < a.run.speed) :
    haltRun c a = { run := { a.run with halted := 0, state := .moving }, raised := a.raised } := if_neg (by omega)

theorem haltRun_stands (h : a.run.speed = 0) (hs : a.run.state = .stalled ∨ min 65535 (a.run.halted + 1) ≠ c.stallLimit) :
    haltRun c a =
      { run := { a.run with
          halted := min 65535 (a.run.halted + 1), state := if a.run.state = .moving then .halted else a.run.state },
        raised := a.raised } :=
  (if_pos h).trans (if_neg fun both => hs.elim both.1 fun ne => ne both.2)

theorem haltRun_stalls (h : a.run.speed = 0) (hs : a.run.state ≠ .stalled) (hl : min 65535 (a.run.halted + 1) = c.stallLimit) :
    haltRun c a =
      { run := { a.run with halted := min 65535 (a.run.halted + 1), state := .stalled }, raised := a.raised ||| anStall } :=
  (if_pos h).trans (if_pos ⟨hs, hl⟩)

/-- A run that was not STALLED is so after the halt exactly when it stands and reaches its limit. -/
theorem haltRun_stalled_iff (hs : a.run.state ≠ .stalled) : (haltRun c a).run.state = .stalled ↔
    a.run.speed = 0 ∧ min 65535 (a.run.halted + 1) = c.stallLimit := by
  rcases Nat.eq_zero_or_pos a.run.speed with h | h
  · by_cases hl : min 65535 (a.run.halted + 1) = c.stallLimit
    · rw [haltRun_stalls h hs hl]
      exact ⟨fun _ => ⟨h, hl⟩, fun _ => rfl⟩
    · rw [haltRun_stands h (.inr hl)]
      refine ⟨fun e => ?_, fun both => absurd both.2 hl⟩
      dsimp only at e
      split at e
      · cases e
      · exact absurd e hs
  · rw [haltRun_moved h]
    exact ⟨nofun, fun both => absurd both.1 (by omega)⟩

end Halt

/-! ### The stall as a row of its own -/

theorem advanceRuns_timed (ids : List Nat) : Timed s (ids.foldl advanceRun s) :=
  foldl_keeps (Timed s) advanceRun (fun t id h => h.trans (advanceRun_timed t id)) _ s (.refl s)

theorem stallRun_none {id : Nat} (h : s.run id = none) : stallRun id s = s := by
  unfold stallRun
  rw [h]

theorem stallRun_still {id : Nat} (hr : s.run id = some r) (h : s.mgmt.mode = .transparent ∨ s.stallDue r = false) :
    stallRun id s = s := by
  unfold stallRun
  rw [hr]
  refine if_neg fun both => ?_
  obtain h | h := h
  · exact both.1 h
  · exact absurd both.2 (by rw [h]; exact Bool.false_ne_true)

theorem stallRun_stalls {id : Nat} (hr : s.run id = some r) (hm : s.mgmt.mode ≠ .transparent) (h : s.stallDue r = true) :
    stallRun id s = endRunEvent { r with halted := min 65535 (r.halted + 1), state := .stalled } anStall s := by
  unfold stallRun
  rw [hr]
  exact if_pos ⟨hm, h⟩

theorem exec_stall {id : Nat} (hp : s.powered = true) (h1 : 1 ≤ id) (h2 : id ≤ 255) :
    exec (.stall id) s = .next (stallRun id s) := by
  show ifWf (runWf id) (live (stallRun id) s) = _
  rw [ifWf_true (by rw [runWf, decide_eq_true h1, decide_eq_true h2]; rfl), live_eq hp]

/-- The advance that is due at the turn of a run. -/
theorem moveAndHalt_atTurn {ahead behind : List Run} (hr : s.tracker.runs = ahead ++ r :: behind)
    (ha : ∀ x ∈ ahead, x.id ≠ r.id) :
    s.atTurnOf r.id = (ahead.map Run.id).foldl advanceRun (ageFlows s) ∧
    moveAndHalt (s.atTurnOf r.id) r = haltRun (s.classOf r.cls) (moveRun (flowTaken ((s.atTurnOf r.id).flowFor r.position))
      (s.stretchOf r.position) (s.classOf r.cls) (leaderPos (s.atTurnOf r.id).tracker.runs r.id) r) := by
  have turn : s.atTurnOf r.id = (ahead.map Run.id).foldl advanceRun (ageFlows s) := by
    unfold State.atTurnOf
    rw [hr, runsAhead_split ha]
  refine ⟨turn, ?_⟩
  have tables : (s.atTurnOf r.id).tables = s.tables := by
    rw [turn]
    exact (advanceRuns_timed _).tables
  unfold moveAndHalt State.classOf State.classAt State.stretchOf State.map
  rw [tables]

/-- Settles O28. The stall is due when the advance of the run at its turn leaves it standing at its limit. -/
theorem standingRunStalls : Obligations.StandingRunStalls := by
  unfold Obligations.StandingRunStalls
  refine ⟨fun c a => ⟨haltRun_stalls, haltRun_stands, haltRun_moved⟩, fun id s hp h1 h2 h => ?idle,
    fun r ahead behind s hp h1 h2 hm hr hn hs => ?due⟩
  case idle =>
    refine (exec_stall hp h1 h2).trans (congrArg Host.Outcome.next ?_)
    cases hr : s.run id with
    | none => exact stallRun_none hr
    | some r =>
      refine stallRun_still hr ?_
      obtain h | h | ⟨x, hx, h⟩ := h
      · exact .inl h
      · exact absurd (hr.symm.trans h) nofun
      · obtain rfl : r = x := Option.some.inj (hr.symm.trans hx)
        refine .inr ?_
        unfold State.stallDue
        obtain h | h := h <;> rw [h] <;> rfl
  case due =>
    intro u leader a h
    rw [hr] at hn
    obtain ⟨ha, hb⟩ := ne_of_nodup_split hn
    have found : s.run r.id = some r := by
      unfold State.run
      rw [hr]
      exact find?_split ha
    obtain ⟨turn, advance⟩ := moveAndHalt_atTurn hr ha
    have started : a.run.state ≠ .stalled := by
      show r.state ≠ .stalled
      obtain hs | hs := hs <;> rw [hs] <;> decide
    have due : s.stallDue r = true ↔ a.run.speed = 0 ∧ h = (s.classOf r.cls).stallLimit := by
      unfold State.stallDue
      rw [advance, turn, Bool.and_eq_true, beq_iff_eq]
      refine (and_iff_right ?_).trans (haltRun_stalled_iff started)
      obtain hs | hs := hs <;> rw [hs] <;> rfl
    refine ⟨fun not => (exec_stall hp h1 h2).trans (congrArg Host.Outcome.next (stallRun_still found (.inr ?_))),
      fun h0 hl => ?_⟩
    · exact Bool.eq_false_iff.2 fun e => not.elim (fun ne => ne (due.1 e).1) fun ne => ne (due.1 e).2
    · have stalls := stallRun_stalls found hm (due.2 ⟨h0, hl⟩)
      rw [endRunEvent_eq] at stalls
      have runs := map_update_split ha hb fun _ => ({ r with halted := h, state := .stalled } : Run).afterEvent
        s.mgmt.config.alarmMask anStall
      have reported := alarmOf_reported (s.updRun r.id fun _ =>
        ({ r with halted := h, state := .stalled } : Run).afterEvent s.mgmt.config.alarmMask anStall)
        { r with halted := h, state := .stalled } anStall
      refine ⟨_, (exec_stall hp h1 h2).trans (congrArg Host.Outcome.next stalls), ?_, fun quiet => ?_, fun loud => ?_,
        reported.interlock, reported.seq, (congrArg Tracker.flows reported.tracker).trans rfl⟩
      · refine (congrArg Tracker.runs reported.tracker).trans ?_
        show s.tracker.runs.map _ = _
        rw [hr]
        exact runs
      · rw [alarmOf_quiet (s := s.updRun r.id _) quiet]
        exact ⟨rfl, rfl⟩
      · exact alarmOf_runAlarm (s := s.updRun r.id _) loud

end Sys2Proof.Machine
end

section
/-! PROOF. The miss check, the zone check, and the advance of a run that is alone in the table (O27). -/

namespace Sys2Proof.Machine

variable {s u : State} {m : List Point} {covered : Nat → Bool}

/-! ### The miss check (R69, R70) -/

/-- The detectors that the miss check counts: the covered ones that the run has passed by more than its band, up to its second
consecutive miss. -/
def missedOf (m : List Point) (covered : Nat → Bool) (r : Run) (ds : List Nat) : List Nat :=
  ((ds.filter (fun d => chainMm m d + r.band < r.position)).filter covered).take (2 - r.misses)

/-- These misses lose the run. -/
abbrev LosesRun (r : Run) (missed : List Nat) : Prop := 0 < missed.length ∧ r.misses + missed.length = 2

/-- The next detector after these misses. -/
def nextAfter (m : List Point) (r : Run) (ds missed : List Nat) : Option Nat :=
  if LosesRun r missed then
    ds.find? (fun d => missed.getLast?.elim false (fun l => l < d))
  else ds.find? (fun d => r.position ≤ chainMm m d + r.band)

/-- What the miss check finds when these detectors are missed. -/
def MissResult.after (m : List Point) (ds missed : List Nat) (x : MissResult) : MissResult where
  run := { x.run with
    misses := x.run.misses + missed.length
    nextDet := nextAfter m x.run ds missed
    state := if LosesRun x.run missed then .lost else x.run.state }
  raised := x.raised ||| (if missed = [] then 0#11 else anMiss) |||
    (if LosesRun x.run missed then anLost else 0#11)
  missed := x.missed ++ missed.zipIdx (x.run.misses + 1)
  lostAt := if LosesRun x.run missed then missed.getLast? else x.lostAt

theorem MissResult.after_eq {ds missed : List Nat} {x : MissResult} {k : Nat} (h : x.run.misses = k) : x.after m ds missed =
    { run := { x.run with
        misses := k + missed.length
        nextDet := if 0 < missed.length ∧ k + missed.length = 2 then
            ds.find? (fun d => missed.getLast?.elim false (fun l => l < d))
          else ds.find? (fun d => x.run.position ≤ chainMm m d + x.run.band)
        state := if 0 < missed.length ∧ k + missed.length = 2 then .lost else x.run.state }
      raised := x.raised ||| (if missed = [] then 0#11 else anMiss) |||
        (if 0 < missed.length ∧ k + missed.length = 2 then anLost else 0#11)
      missed := x.missed ++ missed.zipIdx (k + 1)
      lostAt := if 0 < missed.length ∧ k + missed.length = 2 then missed.getLast? else x.lostAt } := by
  subst h
  rfl

section Miss
variable {d : Nat} {ds : List Nat} {x : MissResult}

theorem missedOf_unpassed {r : Run} (h : ¬ chainMm m d + r.band < r.position) (rising : ∀ e ∈ ds, chainMm m d ≤ chainMm m e) :
    missedOf m covered r (d :: ds) = [] := by
  have none : (d :: ds).filter (fun d => decide (chainMm m d + r.band < r.position)) = [] := by
    refine List.filter_eq_nil_iff.2 fun e he => ?_
    obtain rfl | he := List.mem_cons.1 he
    · simpa using h
    · have := rising e he
      simp only [decide_eq_true_eq]
      omega
  rw [missedOf, none, List.filter_nil, List.take_nil]

theorem missedOf_uncovered {r : Run} (h : chainMm m d + r.band < r.position) (hc : covered d = false) :
    missedOf m covered r (d :: ds) = missedOf m covered r ds := by
  simp [missedOf, h, hc]

theorem missedOf_covered {r : Run} (h : chainMm m d + r.band < r.position) (hc : covered d = true) (hm : r.misses ≤ 1) (o : Option Nat) :
    missedOf m covered r (d :: ds) = d :: (if r.misses = 0 then missedOf m covered { r with misses := 1, nextDet := o } ds else []) := by
  obtain h0 | h1 : r.misses = 0 ∨ r.misses = 1 := by omega
  · simp [missedOf, h, hc, h0]
  · simp [missedOf, h, hc, h1]

/-- The last of the detectors missed is one of those looked at. -/
theorem getLast?_missedOf_mem {r : Run} {l : Nat} (h : (missedOf m covered r ds).getLast? = some l) : l ∈ ds :=
  List.mem_of_mem_filter (List.mem_of_mem_filter (List.mem_of_mem_take (List.mem_of_getLast? h)))

theorem missCheck_eq (rising : ds.Pairwise (fun a b => a < b ∧ chainMm m a ≤ chainMm m b)) (hm : x.run.misses ≤ 1) :
    missCheck m covered ds x = x.after m ds (missedOf m covered x.run ds) := by
  induction ds generalizing x with
  | nil => simp [missCheck, MissResult.after, missedOf, nextAfter, LosesRun]
  | cons d ds ih =>
    rw [List.pairwise_cons] at rising
    obtain ⟨later, rising⟩ := rising
    unfold missCheck
    by_cases h : chainMm m d + x.run.band < x.run.position
    case neg =>
      rw [if_neg h, missedOf_unpassed h fun e he => (later e he).2]
      have here : x.run.position ≤ chainMm m d + x.run.band := by omega
      simp [MissResult.after, nextAfter, LosesRun, here]
    case pos =>
      have beyond : ¬ x.run.position ≤ chainMm m d + x.run.band := by omega
      rw [if_pos h]
      cases hc : covered d with
      | false =>
        rw [if_neg Bool.false_ne_true, missedOf_uncovered h hc, ih rising hm]
        have next : nextAfter m x.run (d :: ds) (missedOf m covered x.run ds) =
            nextAfter m x.run ds (missedOf m covered x.run ds) := by
          unfold nextAfter
          have skipped : ¬ ((missedOf m covered x.run ds).getLast?.elim false fun l => decide (l < d)) = true := by
            cases hl : (missedOf m covered x.run ds).getLast? with
            | none => exact Bool.false_ne_true
            | some l => simpa using (later l (getLast?_missedOf_mem hl)).1.le
          exact if_congr Iff.rfl (List.find?_cons_of_neg skipped) (List.find?_cons_of_neg (by simpa using beyond))
        unfold MissResult.after
        rw [next]
      | true =>
        rw [if_pos rfl, missedOf_covered h hc hm ds.head?]
        obtain h0 | h1 : x.run.misses = 0 ∨ x.run.misses = 1 := by omega
        case inr =>
          have next : ds.find? (fun e => decide (d < e)) = ds.head? := by
            cases ds with
            | nil => rfl
            | cons e es => exact List.find?_cons_of_pos (by simpa using (later e List.mem_cons_self).1)
          simp [MissResult.after, nextAfter, LosesRun, h1, next]
        case inl =>
          dsimp only
          rw [if_neg (by omega), ih rising (by show x.run.misses + 1 ≤ 1; omega), if_pos h0]
          dsimp only
          rw [h0]
          generalize hM : missedOf m covered { x.run with misses := 1, nextDet := ds.head? } ds = M
          have last (l : Nat) (hl : M.getLast? = some l) : d < l := (later l (getLast?_missedOf_mem (hM ▸ hl))).1
          have short : M.length ≤ 1 := by
            rw [← hM, missedOf, List.length_take]
            exact Nat.min_le_left _ _
          match M, short, last with
          | [], _, _ => simp [MissResult.after, nextAfter, LosesRun, h0, beyond]
          | [e], _, last => simp [MissResult.after, nextAfter, LosesRun, h0, (last e rfl).le, BitVec.or_assoc]

end Miss

/-! ### The records of the miss check (Table 3-8) -/

/-- The log after the records of these misses. -/
def State.missLog (s : State) (r : Run) (missed : List (Nat × Nat)) : EventLog :=
  missed.foldl (fun g d => g.offer s.mgmt.config.logMode (s.record .detectorMissed r.id d.1 (slotNumber r.bound) d.2)) s.log

theorem offers_eq (r : Run) (missed : List (Nat × Nat)) :
    missed.foldl (fun s d => offer .detectorMissed r.id d.1 (slotNumber r.bound) d.2 s) s =
      { s with log := s.missLog r missed } := by
  induction missed generalizing s with
  | nil => rfl
  | cons d ds ih => exact ih

theorem logMisses_eq (x : MissResult) : logMisses x s =
    { s with log := x.lostAt.elim (s.missLog x.run x.missed) (fun d => (s.missLog x.run x.missed).offer s.mgmt.config.logMode
      (s.record .runLost x.run.id d (slotNumber x.run.bound) x.run.lastFix)) } := by
  unfold logMisses
  rw [offers_eq]
  cases x.lostAt <;> rfl

/-- The misses with the count that each reached, by their place. -/
theorem zipIdx_eq_map_range (missed : List Nat) (n : Nat) :
    missed.zipIdx (n + 1) = (List.range missed.length).map (fun j => (missed.getD j 0, n + j + 1)) := by
  refine List.ext_getElem (by simp) fun i h _ => ?_
  rw [List.length_zipIdx] at h
  simp [List.getElem?_eq_getElem h]
  omega

theorem missLog_frozen (r : Run) (missed : List (Nat × Nat)) : (s.missLog r missed).frozen = s.log.frozen :=
  foldl_keeps (fun g : EventLog => g.frozen = s.log.frozen) _ (fun _ _ h => (EventLog.offer_frozen _ _ _).trans h) missed _ rfl

theorem logMisses_frozen (x : MissResult) : (logMisses x s).log.frozen = s.log.frozen := by
  rw [logMisses_eq]
  cases x.lostAt with
  | none => exact missLog_frozen _ _
  | some d => exact (EventLog.offer_frozen _ _ _).trans (missLog_frozen _ _)

/-- The log after these misses, the first of them after `n` others. -/
def State.missesLog (s : State) (r : Run) (missed : List Nat) (n : Nat) : EventLog :=
  (List.range missed.length).foldl (fun g j => g.offer s.mgmt.config.logMode
    (s.record .detectorMissed r.id (missed.getD j 0) (slotNumber r.bound) (n + j + 1))) s.log

theorem missLog_zipIdx (r : Run) (missed : List Nat) (n : Nat) :
    s.missLog r (missed.zipIdx (n + 1)) = s.missesLog r missed n := by
  unfold State.missLog State.missesLog
  rw [zipIdx_eq_map_range, List.foldl_map]

/-- The records of misses that may lose the run. -/
theorem logMisses_mayLose {lost : Prop} [Decidable lost] {missed : List Nat} (hl : lost → missed ≠ []) (r : Run)
    (raised : AnomalySet) (n : Nat) :
    logMisses ⟨r, raised, missed.zipIdx (n + 1), if lost then missed.getLast? else none⟩ s =
      { s with
        log := if lost then (s.missesLog r missed n).offer s.mgmt.config.logMode
            (s.record .runLost r.id (missed.getLast?.getD 0) (slotNumber r.bound) r.lastFix)
          else s.missesLog r missed n } := by
  rw [logMisses_eq]
  dsimp only
  rw [missLog_zipIdx]
  by_cases h : lost
  · obtain ⟨d, hd⟩ := Option.ne_none_iff_exists'.1 (mt List.getLast?_eq_none_iff.1 (hl h))
    rw [if_pos h, if_pos h, hd]
    rfl
  · rw [if_neg h, if_neg h]
    rfl

/-! ### The zone check (R119) -/

/-- A valve shuts a zone that holds a position: it is a MAINLINE valve not believed OPEN. -/
def State.ShutsAt (s : State) (pos i : Nat) : Prop :=
  ∃ part, valvePart s.map i = some part ∧ part.role = .mainline ∧
    (chainMm s.map i - part.approach * 1000 ≤ pos ∧ pos ≤ chainMm s.map i + part.clearance * 1000) ∧
    s.believed i .opened = false

theorem isValve_of_valvePart {i : Nat} {v : ValvePart} (h : valvePart m i = some v) :
    (m[i]?).elim false Point.isValve = true := by
  unfold valvePart at h
  cases hp : m[i]? with
  | none => rw [hp] at h; cases h
  | some p =>
    rw [hp] at h
    unfold Point.isValve
    cases hq : p.part <;> simp_all

theorem zoneValveAt_findsLeast (pos : Nat) : FindsLeast (zoneValveAt s pos) (s.ShutsAt pos) := by
  unfold zoneValveAt indicesOf
  rw [List.find?_filter]
  refine findsLeast_range fun i => ?_
  unfold State.ShutsAt
  cases hv : valvePart s.map i with
  | none => simp
  | some v =>
    simp only [isValve_of_valvePart hv, true_and, decide_eq_true_eq]
    simp [lt_of_valvePart hv, inZone_iff, and_assoc]

theorem zoneStep_eq (x : MissResult) : zoneStep s x =
    { run := { x.run with zoneValve := zoneValveAt s x.run.position }
      raised := x.raised ||| (if zoneValveAt s x.run.position ≠ none ∧ zoneValveAt s x.run.position ≠ x.run.zoneValve then anZone
        else 0#11) } := by
  unfold zoneStep anIf
  refine congrArg (fun k => (⟨_, x.raised ||| k⟩ : Advance)) (if_congr ?_ rfl rfl)
  rw [Bool.and_eq_true, Option.isSome_iff_ne_none, bne_iff_ne]

/-! ### A run that is alone in the table -/

theorem haltRun_run (c : PigClass) (a : Advance) : (haltRun c a).run = { a.run with
    halted := if a.run.speed = 0 then min 65535 (a.run.halted + 1) else 0, state := (haltRun c a).run.state } := by
  rcases Nat.eq_zero_or_pos a.run.speed with h | h
  · rw [if_pos h]
    by_cases hs : a.run.state = .stalled ∨ min 65535 (a.run.halted + 1) ≠ c.stallLimit
    · rw [haltRun_stands h hs]
    · obtain ⟨started, limit⟩ := not_or.1 hs
      rw [haltRun_stalls h started (not_not.1 limit)]
  · rw [if_neg (by omega), haltRun_moved h]

/-- The fields of a run that steps 2 to 8 of its advance set. -/
theorem moveAndHalt_base (taken : FlowTaken) (st : Stretch) (c : PigClass) (leader : Option Nat) (r : Run) :
    (haltRun c (moveRun taken st c leader r)).run = { r with
      position := (haltRun c (moveRun taken st c leader r)).run.position
      speed := (haltRun c (moveRun taken st c leader r)).run.speed
      band := (haltRun c (moveRun taken st c leader r)).run.band
      flowDist := (haltRun c (moveRun taken st c leader r)).run.flowDist
      halted := (haltRun c (moveRun taken st c leader r)).run.halted
      state := (haltRun c (moveRun taken st c leader r)).run.state } := by
  rw [haltRun_run]
  rfl

/-- The miss check sets the misses and the next detector, and the state where it loses the run. -/
theorem missCheck_keeps (ds : List Nat) (x : MissResult) : ∃ misses next state, (missCheck m covered ds x).run =
    { x.run with misses := misses, nextDet := next, state := state } ∧ (state = .lost ∨ state = x.run.state) := by
  induction ds generalizing x with
  | nil => exact ⟨_, _, _, rfl, .inr rfl⟩
  | cons d ds ih =>
    unfold missCheck
    split
    · split
      · dsimp only
        split
        · exact ⟨_, _, _, rfl, .inl rfl⟩
        · obtain ⟨misses, next, state, run, kept⟩ := ih { x with
            run := { x.run with misses := x.run.misses + 1, nextDet := ds.head? }
            raised := x.raised ||| anMiss
            missed := x.missed ++ [(d, x.run.misses + 1)] }
          exact ⟨misses, next, state, run, kept⟩
      · exact ih x
    · exact ⟨_, _, _, rfl, .inr rfl⟩

/-- The fields of a run that the miss check and the zone check set. -/
theorem missAndZone_run (a : Advance) : ∃ misses next state zone, (zoneStep s (missStep s a)).run =
    { a.run with misses := misses, nextDet := next, state := state, zoneValve := zone } ∧
      (state = .lost ∨ state = a.run.state) := by
  obtain ⟨misses, next, state, run, lostOr⟩ := missCheck_keeps (m := s.map) (covered := s.covered)
    (detectorsFrom s.map a.run.nextDet) ⟨a.run, a.raised, [], none⟩
  refine ⟨misses, next, state, zoneValveAt s (missStep s a).run.position, ?_, lostOr⟩
  rw [zoneStep_eq]
  exact congrArg (fun x : Run => { x with zoneValve := zoneValveAt s (missStep s a).run.position }) run

section Lone
variable {r : Run}

theorem moveAndHalt_alone (h : s.tracker.runs = [r]) : moveAndHalt (ageFlows (tickClock s)) r =
    haltRun (s.classOf r.cls) (moveRun (flowTaken ((ageFlows s).flowFor r.position)) (s.stretchOf r.position)
      (s.classOf r.cls) none r) := by
  have leader : leaderPos (ageFlows (tickClock s)).tracker.runs r.id = none := by
    show leaderPos s.tracker.runs r.id = none
    rw [h]
    exact leaderPos_split (ahead := []) (behind := []) nofun
  unfold moveAndHalt
  rw [leader]
  rfl

theorem tickTracker_alone (hm : s.mgmt.mode ≠ .transparent) (hc : s.tables.pendingCommit = none) (h : s.tracker.runs = [r])
    (hs : r.state ≠ .lost) {a : Advance} (ha : moveAndHalt (ageFlows (tickClock s)) r = a) :
    let S := ageFlows (tickClock s)
    let z := zoneStep S (missStep S a)
    tickTracker s = exitStep z.run (alarmOf z.run z.raised
      ((logMisses (missStep S a) S).setRuns [z.run.afterEvent s.mgmt.config.alarmMask z.raised])) := by
  subst ha
  intro S z
  have found : S.run r.id = some r := by
    unfold State.run
    show s.tracker.runs.find? _ = _
    rw [h]
    exact find?_split (ahead := []) nofun
  have id : z.run.id = r.id := (S.advanced_spec r).id
  rw [tickTracker_eq, applyCommit_none hc]
  refine (if_neg hm).trans ?_
  unfold advanceAll
  show (s.tracker.runs.map Run.id).foldl advanceRun S = _
  rw [h]
  refine (State.advanceRun_some found hs).trans (congrArg (exitStep z.run) ?_)
  rw [endRunEvent_eq, logMisses_eq]
  refine congrArg (alarmOf z.run z.raised) ?_
  unfold State.updRun
  show State.setRuns _ (s.tracker.runs.map _) = _
  rw [h]
  exact congrArg (State.setRuns _) (congrArg (fun x : Run => [x]) (if_pos id.symm))

theorem exitStep_inside (h : r.position < endMm s.map) : exitStep r s = s := if_neg (by omega)

/-- The only run leaves at the END point. -/
theorem exitStep_leaves {x : Run} (h : endMm s.map ≤ r.position) (hr : s.tracker.runs = [x]) (id : x.id = r.id) :
    exitStep r s = { s with
      tracker := { s.tracker with runs := [], exited := s.tracker.exited + 1#32 }
      seq := (takeOut .exited r.id (s.updRun r.id (fun x => { x with position := endMm s.map }))).seq
      log := s.logWith (s.record .runExited r.id (s.map.length - 1) (slotNumber r.bound) 0) } := by
  refine (if_pos h).trans ?_
  rw [removeRun_eq_takeOut, takeOut_eq]
  unfold State.updRun
  rw [hr]
  have gone : ([x].map fun y => if y.id = r.id then { y with position := endMm s.map } else y).filter (fun y => y.id != r.id) = [] := by
    simp [id]
  show offer _ _ _ _ _ { s with
    tracker := { s.tracker with
      runs := ([x].map fun y => if y.id = r.id then { y with position := endMm s.map } else y).filter (fun y => y.id != r.id)
      exited := _, received := _, abandoned := _ }, seq := _ } = _
  rw [gone]
  rfl

/-- What a run that may leave at the END point leaves alone. -/
theorem exitStep_same (r : Run) (s : State) : (exitStep r s).mgmt = s.mgmt ∧
    (exitStep r s).tracker.flows = s.tracker.flows ∧ (exitStep r s).tracker.clock = s.tracker.clock ∧
    (exitStep r s).interlock = s.interlock ∧ (exitStep r s).matcher = s.matcher ∧ (exitStep r s).scan = s.scan ∧
    (exitStep r s).tables = s.tables ∧ (exitStep r s).lines = s.lines := by
  unfold exitStep
  split
  · rw [removeRun_eq_takeOut, takeOut_eq]
    exact ⟨rfl, rfl, rfl, rfl, rfl, rfl, rfl, rfl⟩
  · exact ⟨rfl, rfl, rfl, rfl, rfl, rfl, rfl, rfl⟩

/-- A run that leaves changes the state of no slot. -/
theorem exitStep_slot (r : Run) (s : State) (k : SlotId) : ((exitStep r s).slot k).state = (s.slot k).state := by
  unfold exitStep
  split
  · exact (congrArg Slot.state (takeOut_slot .exited r.id)).trans rfl
  · rfl

theorem detectorsFrom_eq (n : Option Nat) :
    detectorsFrom m n = (detectorIndices m).filter (fun d => n.elim false (fun k => k ≤ d)) := by
  cases n with
  | none => exact (List.filter_eq_nil_iff.2 fun _ _ => Bool.false_ne_true).symm
  | some k => rfl

theorem detectorsFrom_rising (rising : m.Pairwise (fun a b => a.chainage < b.chainage)) (n : Option Nat) :
    (detectorsFrom m n).Pairwise (fun a b => a < b ∧ chainMm m a ≤ chainMm m b) := by
  rw [detectorsFrom_eq]
  have within : ∀ d ∈ detectorIndices m, d < m.length := fun d hd => List.mem_range.1 (List.mem_of_mem_filter hd)
  have ascending : (detectorIndices m).Pairwise (· < ·) := List.pairwise_lt_range.filter _
  refine List.Pairwise.filter _ (ascending.imp_of_mem fun _ hb lt => ⟨lt, chainMm_le rising lt.le (within _ hb)⟩)

end Lone

/-- The parts of a second event beside the Run Tracker's, where no slot is active. -/
theorem secondParts_idle {ws : List SecondWork} (h : .tracker ∉ ws)
    (idle : s.mgmt.mode = .guarded → ∀ k, (s.slot k).state = .idle) : FieldKept s (ws.foldl secondPart s) := by
  by_cases hm : s.mgmt.mode = .guarded
  case neg => exact secondParts_fieldKept h hm
  case pos =>
    have idle := idle hm
    induction ws generalizing s with
    | nil => exact .refl s
    | cons w ws ih =>
      obtain ⟨hw, hws⟩ := not_or.1 (mt List.mem_cons.2 h)
      have here : FieldKept s (secondPart s w) := by
        cases w
        case tracker => exact absurd rfl hw
        case holdOff => exact tickHoldOff_fieldKept
        case travel => exact tickTravel_fieldKept
        case scan => exact tickScan_fieldKept
        case slots =>
          have still (k : SlotId) : s.Still k := ⟨by rw [idle]; decide, by rw [idle]; decide⟩
          rw [show secondPart s .slots = s from (tickSlots_alone hm fun k _ => still k).trans (tickSlot_still (still 0))]
          exact .refl s
      have slots (k : SlotId) : ((secondPart s w).slot k).state = .idle := by
        unfold State.slot
        rw [here.seq]
        exact idle k
      exact here.trans (ih hws (fun _ => slots) (here.mode.trans hm) slots)

/-- The whole second event, in any order of its parts, for a run that is alone, with every slot IDLE in GUARDED. -/
theorem secondEvent_alone {order : List SecondWork} {r : Run} (hp : s.powered = true) (hw : SecondWork.wf order = true)
    (idle : s.mgmt.mode = .guarded → ∀ k, (s.slot k).state = .idle) (hm : s.mgmt.mode ≠ .transparent)
    (hc : s.tables.pendingCommit = none) (hr : s.tracker.runs = [r]) (hs : r.state ≠ .lost) :
    let h := haltRun (s.classOf r.cls) (moveRun (flowTaken ((ageFlows s).flowFor r.position)) (s.stretchOf r.position)
      (s.classOf r.cls) none r)
    ∃ (z : Advance) (mask : AnomalySet) (t : State), exec (.secondEvent order) s = .next t ∧
      (∃ misses next state zone,
        z.run = { h.run with misses := misses, nextDet := next, state := state, zoneValve := zone } ∧
          (state = .lost ∨ state = h.run.state)) ∧
      (z.run.position < endMm s.map →
        t.tracker.runs = [z.run.afterEvent mask z.raised] ∧ t.tracker.exited = s.tracker.exited) ∧
      (endMm s.map ≤ z.run.position → t.tracker.runs = [] ∧ t.tracker.exited = s.tracker.exited + 1#32) := by
  intro h
  obtain ⟨before, after, rfl, hb, ha⟩ := SecondWork.exists_split hw
  have first := secondParts_idle hb idle
  generalize hU : before.foldl secondPart s = U at first
  have advance : moveAndHalt (ageFlows (tickClock U)) r = h := by
    rw [moveAndHalt_alone (s := U) (by rw [first.tracker]; exact hr)]
    unfold ageFlows State.setFlows State.classOf State.classAt State.stretchOf State.flowFor State.map State.flow
    dsimp only
    rw [first.tables, first.tracker]
    rfl
  have course := tickTracker_alone (s := U) (by rw [first.mode]; exact hm) (by rw [first.tables]; exact hc)
    (by rw [first.tracker]; exact hr) hs advance
  have run := missAndZone_run (s := ageFlows (tickClock U)) h
  dsimp only at course
  generalize zoneStep (ageFlows (tickClock U)) (missStep (ageFlows (tickClock U)) h) = z at course run
  generalize hW : (logMisses (missStep (ageFlows (tickClock U)) h) (ageFlows (tickClock U))).setRuns
    [z.run.afterEvent U.mgmt.config.alarmMask z.raised] = W at course
  have reported := alarmOf_reported W z.run z.raised
  obtain ⟨tables, mode, seq, exited, runs⟩ : W.tables = s.tables ∧ W.mgmt.mode = s.mgmt.mode ∧ W.seq = s.seq ∧
      W.tracker.exited = s.tracker.exited ∧ W.tracker.runs = [z.run.afterEvent U.mgmt.config.alarmMask z.raised] := by
    rw [← hW, logMisses_eq]
    exact ⟨first.tables, first.mode, first.seq, by show U.tracker.exited = _; rw [first.tracker], rfl⟩
  have limit : endMm (alarmOf z.run z.raised W).map = endMm s.map := by
    unfold State.map
    rw [reported.tables, tables]
  have last := secondParts_idle (s := tickTracker U) ha (fun e k => by
    rw [course] at e ⊢
    rw [exitStep_slot, State.slot_congr reported.seq, State.slot_congr seq]
    exact idle (mode.symm.trans (reported.mode.symm.trans ((congrArg Mgmt.mode (exitStep_same _ _).1).symm.trans e))) k)
  have next : exec (.secondEvent (before ++ .tracker :: after)) s =
      .next (answerCommit (after.foldl secondPart (tickTracker U))) := by
    rw [exec_secondEvent hp hw]
    unfold secondEvent
    rw [secondParts_split, hU]
    rfl
  have tracker := (answerCommit_tracker (s := after.foldl secondPart (tickTracker U))).trans (last.tracker.trans
    (congrArg State.tracker course))
  refine ⟨z, U.mgmt.config.alarmMask, _, next, run, fun inside => ?_, fun out => ?_⟩
  · rw [tracker, exitStep_inside (r := z.run) (inside.trans_eq limit.symm), reported.tracker]
    exact ⟨runs, exited⟩
  · rw [tracker, exitStep_leaves (r := z.run) (limit.le.trans out) ((congrArg Tracker.runs reported.tracker).trans runs) rfl]
    exact ⟨rfl, (congrArg (fun k : Tracker => k.exited + 1#32) reported.tracker).trans (congrArg (· + 1#32) exited)⟩

/-- Settles O27. The parts beside the Run Tracker's leave the run and what its advance reads; the advance itself is the miss check
of the detectors ahead, the zone check, the alarm of what they raised, and the way out at the END point. -/
theorem loneRunAdvances : Obligations.LoneRunAdvances := by
  unfold Obligations.LoneRunAdvances
  refine ⟨?event, ?part⟩
  case part =>
    intro r s hm hc hr hs hk rising a pos ahead missed lost shuts ticked mode mask t
    have course : t = _ := tickTracker_alone hm hc hr hs (moveAndHalt_alone hr)
    have base : a.run = _ := moveAndHalt_base _ _ _ _ _
    have id : a.run.id = r.id := (congrArg Run.id base).trans rfl
    have bound : a.run.bound = r.bound := (congrArg Run.bound base).trans rfl
    have lastFix : a.run.lastFix = r.lastFix := (congrArg Run.lastFix base).trans rfl
    have nextDet : a.run.nextDet = r.nextDet := (congrArg Run.nextDet base).trans rfl
    have misses : a.run.misses = r.misses := (congrArg Run.misses base).trans rfl
    have zoneValve : a.run.zoneValve = r.zoneValve := (congrArg Run.zoneValve base).trans rfl
    have accrued : a.run.accrued = r.accrued := (congrArg Run.accrued base).trans rfl
    have alarmed : a.run.alarmed = r.alarmed := (congrArg Run.alarmed base).trans rfl
    clear base
    have zoneSpec := zoneValveAt_findsLeast (s := s) pos
    refine ⟨zoneValveAt s pos, fun i e => (zoneSpec i).1 e, fun e i _ => zoneSpec.none_iff.1 e i, ?_⟩
    intro raised alarm x told g h freezes kept
    have found : missStep (ageFlows (tickClock s)) a =
        { run := { a.run with misses := x.misses, nextDet := x.nextDet, state := x.state }
          raised := a.raised ||| (if missed = [] then 0#11 else anMiss) ||| (if lost then anLost else 0#11)
          missed := missed.zipIdx (r.misses + 1)
          lostAt := if lost then missed.getLast? else none } := by
      have same : missedOf s.map s.covered a.run (detectorsFrom s.map a.run.nextDet) = missed := by
        unfold missedOf
        rw [detectorsFrom_eq, nextDet, misses]
      refine (missCheck_eq (detectorsFrom_rising rising _) (misses ▸ hk)).trans ?_
      show MissResult.after s.map _ (missedOf s.map s.covered a.run (detectorsFrom s.map a.run.nextDet)) _ = _
      rw [same, detectorsFrom_eq, nextDet]
      exact MissResult.after_eq misses
    have stepped : zoneStep (ageFlows (tickClock s)) (missStep (ageFlows (tickClock s)) a) =
        { run := { a.run with
            misses := x.misses, nextDet := x.nextDet, state := x.state, zoneValve := x.zoneValve }
          raised := raised } := by
      rw [found, zoneStep_eq]
      show (⟨_, _ ||| (if zoneValveAt s pos ≠ none ∧ zoneValveAt s pos ≠ a.run.zoneValve then anZone else 0#11)⟩ : Advance) = _
      rw [zoneValve]
      rfl
    have logged : logMisses (missStep (ageFlows (tickClock s)) a) (ageFlows (tickClock s)) =
        { ageFlows (tickClock s) with log := g } := by
      rw [found, logMisses_mayLose fun hl => List.ne_nil_of_length_pos hl.1]
      unfold State.missesLog
      dsimp only
      rw [id, bound, lastFix]
      rfl
    have marked : ({ a.run with
        misses := x.misses, nextDet := x.nextDet, state := x.state, zoneValve := x.zoneValve } : Run).afterEvent mask raised = x := by
      unfold Run.afterEvent
      dsimp only
      rw [accrued, alarmed]
    rw [stepped, logged] at course
    dsimp only at course
    rw [marked] at course
    let b : Run := { a.run with misses := x.misses, nextDet := x.nextDet, state := x.state, zoneValve := x.zoneValve }
    let v : State := { s with
      tracker := { s.tracker with clock := s.tracker.clock + 1#32, flows := s.tracker.flows.map FlowRec.aged, runs := [x] }
      log := g }
    change t = exitStep b (alarmOf b raised v) at course
    have frozen : g.frozen = s.log.frozen := by
      have := logMisses_frozen (s := ageFlows (tickClock s)) (missStep (ageFlows (tickClock s)) a)
      rw [logged] at this
      exact this
    have freezesIff : v.AlarmFreezes raised ↔ freezes := by
      show (_ ∧ _ ∧ _ ∧ g.frozen = false) ↔ _
      rw [frozen]
    have alarmLog : v.alarmLog b raised = h := by
      unfold State.alarmLog
      show (if alarm = 0#11 then g else g.offer mode (ticked.record .anomalyAlarm a.run.id _ (slotNumber a.run.bound) _)) = h
      rw [id, bound]
    obtain ⟨mgmt, log⟩ := alarmOf_spec (s := v) (r := b) (raised := raised)
    rw [alarmLog] at log
    have log := log.trans (if_congr freezesIff rfl rfl)
    have reported := alarmOf_reported v b raised
    obtain ⟨sameMgmt, flows, clock, interlock, matcher, scan, tables, lines⟩ := exitStep_same b (alarmOf b raised v)
    have limit : endMm (alarmOf b raised v).map = endMm s.map := by
      unfold State.map
      rw [reported.tables]
    rw [course]
    refine ⟨sameMgmt.trans (mgmt.trans ?_), flows.trans (congrArg Tracker.flows reported.tracker),
      clock.trans (congrArg Tracker.clock reported.tracker), fun inside => ?_, fun out => ?_,
      interlock.trans reported.interlock, matcher.trans reported.matcher, scan.trans reported.scan,
      tables.trans reported.tables, lines.trans reported.lines⟩
    · rw [if_congr freezesIff rfl rfl]
    · rw [exitStep_inside (r := b) (inside.trans_eq limit.symm)]
      exact ⟨congrArg Tracker.runs reported.tracker, reported.seq, log⟩
    · have leaves := exitStep_leaves (r := b) (x := x) (limit.le.trans out) (congrArg Tracker.runs reported.tracker) rfl
      rw [leaves]
      refine ⟨rfl, (congrArg (fun k : Tracker => k.exited + 1#32) reported.tracker).trans rfl, fun k => ?_, ?_⟩
      · refine (takeOut_slot .exited b.id).trans ?_
        have same : ((alarmOf b raised v).updRun b.id
            (fun x => { x with position := endMm (alarmOf b raised v).map })).slot k = s.slot k :=
          State.slot_congr (s := v) (t := alarmOf b raised v) reported.seq k
        rw [same]
        exact congrArg (fun i => { s.slot k with bound := if (s.slot k).bound = some i then none else (s.slot k).bound }) id
      · unfold State.logWith State.record
        have map : (alarmOf b raised v).map = s.map := congrArg (fun k => k.active.lineMap) reported.tables
        dsimp only
        rw [log, reported.config, reported.tracker, map]
        show EventLog.offer _ ⟨_, _, a.run.id, _, slotNumber a.run.bound, _⟩ _ = _
        rw [id, bound]
  case event =>
    intro order r s hp hw modes hc hr hs a
    have hm : s.mgmt.mode ≠ .transparent := by
      obtain e | ⟨e, -⟩ := modes <;> rw [e] <;> decide
    obtain ⟨z, mask, t, next, ⟨misses, det, state, zone, run, lostOr⟩, inside, out⟩ := secondEvent_alone hp hw
      (fun e => modes.elim (fun monitor => nomatch monitor.symm.trans e) And.right) hm hc hr hs
    rw [haltRun_run] at run
    have position : z.run.position = a.run.position := (congrArg Run.position run).trans rfl
    rw [position] at inside out
    refine ⟨fun h => ⟨t, z.run.afterEvent mask z.raised, next, ?_⟩, fun h => ⟨t, next, out h⟩⟩
    obtain ⟨runs, exited⟩ := inside h
    rw [run] at runs ⊢
    exact ⟨runs, rfl, rfl, rfl, rfl, rfl, rfl, rfl, rfl, rfl, rfl, rfl, lostOr, exited⟩

end Sys2Proof.Machine
end

section
/-! PROOF. The end of every train (R148, R150, R188), and the warm restart (O6). -/

namespace Sys2Proof.Machine

variable {s t u : State} {k : SlotId} {cause : Cause} {ks : List SlotId}

/-! ### One train dropped -/

theorem trainDropped_slot (j : SlotId) : (s.trainDropped k cause).slot j =
    if j = k then ((s.slot k).endedBy cause).dropped else s.slot j := by
  unfold State.trainDropped
  rw [releaseValves_slot, State.slot_setSlot]
  rfl

theorem trainDropped_order (j : SlotId) : (s.trainDropped k cause).order j = if j = k then s.leftOrder k else s.order j :=
  State.order_setOrder (s := { s with log := s.endLog k cause ((s.slot k).bound.getD 0) ((s.slot k).step.getD 255) }) j k _

/-! ### The trains of a list of slots -/

/-- A train whose slot is not IDLE is dropped. -/
def State.dropActive (cause : Cause) (s : State) (k : SlotId) : State :=
  if (s.slot k).state = .idle then s else s.trainDropped k cause

theorem terminateAll_eq (hc : cause.Drops) : terminateAll cause s = slotIds.foldl (State.dropActive cause) s := by
  unfold terminateAll State.dropActive
  simp only [terminateNow_drops hc]

/-- The log after the ends of these slots' trains. -/
def State.endsLog (s : State) (cause : Cause) (ks : List SlotId) (g : EventLog) : EventLog :=
  ks.foldl (fun g k =>
    if (s.slot k).state = .idle then g
    else g.offer s.mgmt.config.logMode
      (s.record .slotEnded ((s.slot k).bound.getD 0) (s.trapOf k) k.val (cause.code * 256 + (s.slot k).step.getD 255))) g

/-- A run after the ends of these slots' trains. -/
def State.runFreed (s : State) (ks : List SlotId) (x : Run) : Run :=
  if ks.any (fun k => (s.slot k).state != .idle && (s.slot k).bound == some x.id) then { x with bound := none } else x

/-- A valve record after the ends of these slots' trains. -/
def State.valveReleased (s : State) (ks : List SlotId) (v : ValveRec) : ValveRec :=
  if v.reserving.any (fun k => ks.contains k && (s.slot k).state != .idle) then { v with reserving := none } else v

/-- The trains of these slots have ended, those of the IDLE slots apart. -/
structure Dropped (cause : Cause) (ks : List SlotId) (s t : State) : Prop where
  slots : ∀ k, t.slot k =
    if k ∈ ks ∧ (s.slot k).state ≠ .idle then ((s.slot k).endedBy cause).dropped else s.slot k
  orders : ∀ k, t.order k = if k ∈ ks ∧ (s.slot k).state ≠ .idle then s.leftOrder k else s.order k
  kept : t = { s with
    log := s.endsLog cause ks s.log
    tracker := { s.tracker with runs := s.tracker.runs.map (s.runFreed ks) }
    interlock := { valves := s.interlock.valves.map (s.valveReleased ks) }
    seq := t.seq
    portB := { s.portB with orders := t.portB.orders } }

theorem State.runFreed_nil (x : Run) : s.runFreed [] x = x := rfl

theorem State.valveReleased_nil (v : ValveRec) : s.valveReleased [] v = v := by
  unfold State.valveReleased
  cases v.reserving <;> rfl

theorem Dropped.nil : Dropped cause [] s s where
  slots _ := (if_neg fun h => nomatch h.1).symm
  orders _ := (if_neg fun h => nomatch h.1).symm
  kept := by
    have runs : s.tracker.runs.map (s.runFreed []) = s.tracker.runs := List.map_id _
    have valves : s.interlock.valves.map (s.valveReleased []) = s.interlock.valves :=
      (List.map_congr_left fun v _ => State.valveReleased_nil v).trans (List.map_id _)
    rw [runs, valves]
    rfl

theorem trainDropped_kept : s.trainDropped k cause = { s with
    log := s.endLog k cause ((s.slot k).bound.getD 0) ((s.slot k).step.getD 255)
    tracker := { s.tracker with
      runs := s.tracker.runs.map (fun y => if (s.slot k).bound = some y.id then { y with bound := none } else y) }
    interlock := { valves := s.interlock.valves.map (fun v => if v.reserving = some k then { v with reserving := none } else v) }
    seq := (s.trainDropped k cause).seq
    portB := { s.portB with orders := (s.trainDropped k cause).portB.orders } } := rfl

theorem Dropped.skip (hk : (s.slot k).state = .idle) (h : Dropped cause ks s t) : Dropped cause (k :: ks) s t where
  slots j := (h.slots j).trans (if_congr (and_congr_left fun a => by
    rw [List.mem_cons]; exact (or_iff_right fun e : j = k => a (e ▸ hk)).symm) rfl rfl)
  orders j := (h.orders j).trans (if_congr (and_congr_left fun a => by
    rw [List.mem_cons]; exact (or_iff_right fun e : j = k => a (e ▸ hk)).symm) rfl rfl)
  kept := by
    have log : s.endsLog cause (k :: ks) s.log = s.endsLog cause ks s.log := by
      unfold State.endsLog
      rw [List.foldl_cons, if_pos hk]
    have run (x : Run) : s.runFreed (k :: ks) x = s.runFreed ks x := by
      unfold State.runFreed
      rw [List.any_cons, hk]
      rfl
    have valve (v : ValveRec) : s.valveReleased (k :: ks) v = s.valveReleased ks v := by
      unfold State.valveReleased
      cases hv : v.reserving with
      | none => rfl
      | some j =>
        by_cases e : j = k
        · subst e; simp [hk]
        · simp [e]
    rw [log, funext run, funext valve]
    exact h.kept

theorem Dropped.drop (hk : (s.slot k).state ≠ .idle) (hks : k ∉ ks) (h : Dropped cause ks (s.trainDropped k cause) t) :
    Dropped cause (k :: ks) s t where
  slots j := by
    rw [h.slots, trainDropped_slot]
    by_cases e : j = k
    · subst e; simp [hks, hk]
    · simp [e]
  orders j := by
    rw [h.orders, trainDropped_slot, trainDropped_order, State.leftOrder, State.leftOrder, trainDropped_order]
    by_cases e : j = k
    · subst e; simp [hks, hk, State.leftOrder]
    · simp [e, State.leftOrder]
  kept := by
    have apart (j : SlotId) (hj : j ∈ ks) : (s.trainDropped k cause).slot j = s.slot j :=
      (trainDropped_slot j).trans (if_neg fun e : j = k => hks (e ▸ hj))
    have log : (s.trainDropped k cause).endsLog cause ks (s.trainDropped k cause).log = s.endsLog cause (k :: ks) s.log := by
      unfold State.endsLog
      rw [List.foldl_cons, if_neg hk]
      refine List.foldl_ext _ _ _ fun g j hj => ?_
      have trap : (s.trainDropped k cause).trapOf j = s.trapOf j := by
        unfold State.trapOf State.programOf
        rw [apart j hj]
        rfl
      rw [apart j hj, trap]
      rfl
    have run (x : Run) : (s.trainDropped k cause).runFreed ks
        (if (s.slot k).bound = some x.id then { x with bound := none } else x) = s.runFreed (k :: ks) x := by
      have same (i : Nat) : ks.any (fun j => ((s.trainDropped k cause).slot j).state != .idle &&
          ((s.trainDropped k cause).slot j).bound == some i) =
          ks.any (fun j => (s.slot j).state != .idle && (s.slot j).bound == some i) := by
        rw [Bool.eq_iff_iff, List.any_eq_true, List.any_eq_true]
        exact exists_congr fun j => and_congr_right fun hj => by rw [apart j hj]
      unfold State.runFreed
      by_cases hb : (s.slot k).bound = some x.id
      · simp [hb, hk]
      · simp [hb, same]
    have valve (v : ValveRec) : (s.trainDropped k cause).valveReleased ks
        (if v.reserving = some k then { v with reserving := none } else v) = s.valveReleased (k :: ks) v := by
      unfold State.valveReleased
      cases hv : v.reserving with
      | none => simp [hv]
      | some j =>
        by_cases e : j = k
        · subst e; simp [hk]
        · simp [e, hv, trainDropped_slot]
    have runs : (s.trainDropped k cause).tracker.runs.map ((s.trainDropped k cause).runFreed ks) =
        s.tracker.runs.map (s.runFreed (k :: ks)) :=
      (List.map_map ..).trans (List.map_congr_left fun x _ => run x)
    have valves : (s.trainDropped k cause).interlock.valves.map ((s.trainDropped k cause).valveReleased ks) =
        s.interlock.valves.map (s.valveReleased (k :: ks)) :=
      (List.map_map ..).trans (List.map_congr_left fun v _ => valve v)
    refine h.kept.trans ?_
    rw [log, runs, valves]
    rfl

theorem dropActives_dropped (nodup : ks.Nodup) : Dropped cause ks s (ks.foldl (State.dropActive cause) s) := by
  induction ks generalizing s with
  | nil => exact .nil
  | cons k ks ih =>
    obtain ⟨hks, nodup⟩ := List.nodup_cons.1 nodup
    rw [List.foldl_cons]
    by_cases hk : (s.slot k).state = .idle
    · rw [State.dropActive, if_pos hk]
      exact (ih nodup).skip hk
    · rw [State.dropActive, if_neg hk]
      exact (ih nodup).drop hk hks

theorem terminateAll_dropped (hc : cause.Drops) : Dropped cause slotIds s (terminateAll cause s) := by
  rw [terminateAll_eq hc]
  exact dropActives_dropped slotIds_nodup

/-! ### The warm restart -/

theorem execWarmRestart_eq (hp : s.powered = true) (straps : BitVec 7) :
    exec (.warmRestart straps) s = .next (warmRestart straps s) := live_eq hp _

/-- A pulse of the warm-restart input acts from its first millisecond on. -/
theorem exec_warmRestartInput (hp : s.powered = true) (micros : Nat) (straps : BitVec 7) :
    exec (.warmRestartInput micros straps) s =
      .next (if 1000 ≤ micros then warmRestart straps s else setStraps straps s) := by
  refine (live_eq hp fun s => if pulseActs micros then warmRestart straps s else setStraps straps s).trans
    (congrArg Host.Outcome.next (if_congr ?_ rfl rfl))
  exact decide_eq_true_iff

/-- Settles O6. The trains end, each with its record, and the effects of R188 make the rest from the tables, the clock and the
configuration that those ends leave. -/
theorem warmRestartTakesEffect : Obligations.WarmRestartTakesEffect := by
  unfold Obligations.WarmRestartTakesEffect
  intro straps s hp
  refine ⟨⟨_, execWarmRestart_eq hp straps, ?_⟩, fun micros h => ?_, fun micros h => ?_⟩
  · obtain ⟨slots, -, kept⟩ := terminateAll_dropped (s := s) (cause := .warmRestart) (.inr (.inr rfl))
    unfold warmRestart
    generalize terminateAll .warmRestart s = u at slots kept
    generalize u.seq = q, u.portB.orders = o at kept
    subst kept
    have open_ : s.lines.bypassClosed = false := by simpa [State.powered] using hp
    refine ⟨rfl, rfl, fun k => ?_, rfl, rfl, rfl, fun k => by fin_cases k <;> rfl, rfl,
      fun p => by cases p <;> exact ⟨rfl, rfl, rfl⟩, rfl, rfl, rfl, rfl, rfl, rfl, ?_, rfl, rfl⟩
    · rw [restartEffects_slot, slots k]
      unfold Slot.restarted
      by_cases h : (s.slot k).state = .idle
      · rw [if_neg fun both => both.2 h, if_pos h]
      · rw [if_pos ⟨mem_slotIds k, h⟩, if_neg h]
        rfl
    · rw [← nodeOfStraps_eq, ← open_]
      rfl
  · rw [exec_warmRestartInput hp, if_pos h, execWarmRestart_eq hp]
  · rw [exec_warmRestartInput hp, if_neg (by omega)]
    rfl

end Sys2Proof.Machine
end

section
/-! PROOF. The link clear (O7). -/

namespace Sys2Proof.Machine

variable {s t : State} {k : SlotId} {ks : List SlotId}

/-! ### The orders that are lost (R149) -/

/-- A slot after its order, if it has one, was emptied from its place. -/
def State.slotLost (s : State) (k : SlotId) : Slot :=
  { s.slot k with order := if (s.slot k).order = .queued ∧ (s.order k).isSome then .lost else (s.slot k).order }

/-- The orders of these slots are lost. -/
structure OrdersLost (ks : List SlotId) (s t : State) : Prop where
  slots : ∀ k, t.slot k = if k ∈ ks then s.slotLost k else s.slot k
  kept : t = { s with seq := t.seq }

/-- The order of a slot, if it has one, is lost. -/
def State.loseAt (s : State) (k : SlotId) : State := if (s.order k).isSome then loseOrder k s else s

theorem loseAt_slot (j : SlotId) : (s.loseAt k).slot j = if j = k then s.slotLost k else s.slot j := by
  unfold State.loseAt State.slotLost
  split
  · next h =>
    rw [loseOrder_eq, State.updSlot, State.slot_setSlot]
    simp only [h, and_true]
  · next h =>
    have kept : (if (s.slot k).order = .queued ∧ (s.order k).isSome then StepOrder.lost else (s.slot k).order) =
        (s.slot k).order := if_neg fun both => h both.2
    rw [kept]
    split
    · next e => rw [e]
    · rfl

theorem loseAt_kept : s.loseAt k = { s with seq := (s.loseAt k).seq } := by
  unfold State.loseAt
  split
  · rw [loseOrder_eq]
    rfl
  · rfl

theorem loseAts_lost (nodup : ks.Nodup) : OrdersLost ks s (ks.foldl State.loseAt s) := by
  induction ks generalizing s with
  | nil => exact ⟨fun _ => (if_neg nofun).symm, rfl⟩
  | cons k ks ih =>
    obtain ⟨hks, nodup⟩ := List.nodup_cons.1 nodup
    obtain ⟨slots, kept⟩ := ih (s := s.loseAt k) nodup
    rw [List.foldl_cons]
    refine ⟨fun j => ?_, kept.trans (by rw [loseAt_kept])⟩
    have order (j : SlotId) : (s.loseAt k).order j = s.order j := by rw [loseAt_kept]; rfl
    rw [slots j]
    unfold State.slotLost
    rw [order, loseAt_slot]
    by_cases e : j = k
    · subst e; simp [hks, State.slotLost]
    · simp [e]

/-! ### The orders that awaited their places -/

/-- The slot's step awaits its place, and the place is empty. -/
abbrev State.PlaceDue (s : State) (k : SlotId) : Prop :=
  (s.slot k).state = .running ∧ (s.slot k).order = .awaitingPlace ∧ s.order k = none

/-- The orders of these slots that awaited an empty place are placed. -/
structure OrdersPlaced (ks : List SlotId) (s t : State) : Prop where
  placed : ∀ k ∈ ks, s.PlaceDue k → t.slot k = { s.slot k with order := .queued } ∧
    ∃ o, t.order k = some o ∧ o.begun = false ∧ o.logged = false
  others : ∀ k, ¬ (k ∈ ks ∧ s.PlaceDue k) → t.slot k = s.slot k ∧ t.order k = s.order k
  kept : t = { s with seq := t.seq, portB := { s.portB with orders := t.portB.orders } }

theorem placeAwaiting_other {j : SlotId} (h : j ≠ k) :
    (placeAwaiting k s).slot j = s.slot j ∧ (placeAwaiting k s).order j = s.order j := by
  unfold placeAwaiting
  split
  · next due =>
    rw [issueOrder_placed due.2.2]
    exact ⟨State.slot_setSlot_ne (s := s.setOrder k _) _ h, State.order_setOrder_ne _ _ h⟩
  · exact ⟨rfl, rfl⟩

theorem placeAwaiting_kept : placeAwaiting k s = { s with
    seq := (placeAwaiting k s).seq, portB := { s.portB with orders := (placeAwaiting k s).portB.orders } } := by
  unfold placeAwaiting
  split
  · next due =>
    rw [issueOrder_placed due.2.2]
    rfl
  · rfl

theorem placeAwaitings_placed (nodup : ks.Nodup) :
    OrdersPlaced ks s (ks.foldl (fun s k => placeAwaiting k s) s) := by
  induction ks generalizing s with
  | nil => exact ⟨nofun, fun _ _ => ⟨rfl, rfl⟩, rfl⟩
  | cons k ks ih =>
    obtain ⟨hks, nodup⟩ := List.nodup_cons.1 nodup
    obtain ⟨placed, others, kept⟩ := ih (s := placeAwaiting k s) nodup
    rw [List.foldl_cons]
    have here := others k fun both => hks both.1
    have apart {j : SlotId} (e : j ≠ k) : (placeAwaiting k s).PlaceDue j ↔ s.PlaceDue j := by
      unfold State.PlaceDue
      rw [(placeAwaiting_other e).1, (placeAwaiting_other e).2]
    refine ⟨fun j hj due => ?_, fun j not => ?_, kept.trans (by rw [placeAwaiting_kept])⟩
    · by_cases e : j = k
      · subst e
        rw [here.1, here.2, placeAwaiting_placed due.1 due.2.1 due.2.2]
        exact ⟨State.slot_setSlot_same .., _, State.order_setOrder_same .., rfl, rfl⟩
      · have := placed j ((List.mem_cons.1 hj).resolve_left e) ((apart e).2 due)
        rwa [(placeAwaiting_other e).1] at this
    · by_cases e : j = k
      · subst e
        have still : placeAwaiting j s = s := if_neg fun due => not ⟨List.mem_cons_self, due⟩
        rw [here.1, here.2, still]
        exact ⟨rfl, rfl⟩
      · obtain ⟨slot, order⟩ := others j fun both => not ⟨List.mem_cons_of_mem _ both.1, (apart e).1 both.2⟩
        exact ⟨slot.trans (placeAwaiting_other e).1, order.trans (placeAwaiting_other e).2⟩

/-! ### The link clear -/

/-- What a link clear empties and abandons. -/
def State.pathEmptied (s : State) : State :=
  { s with
    portA := { link := s.portA.link.abandon, down := [], answers := [], alert := none }
    portB := { s.portB with link := s.portB.link.abandon, up := [], orders := ⟨none, none, none, none⟩, burst := 0 } }

theorem clearLinks_eq : clearLinks s =
    slotIds.foldl (fun s k => placeAwaiting k s) (raise 12 (slotIds.foldl State.loseAt s).pathEmptied) := rfl

/-- The ports after a link clear, but for the orders placed anew. -/
structure LinksCleared (s t : State) : Prop where
  awaiting : ∀ k, (s.slot k).state = .running → (s.slot k).order = .awaitingPlace →
    t.slot k = { s.slot k with order := .queued } ∧ ∃ o, t.order k = some o ∧ o.begun = false ∧ o.logged = false
  others : ∀ k, ¬ ((s.slot k).state = .running ∧ (s.slot k).order = .awaitingPlace) →
    t.order k = none ∧ t.slot k = s.slotLost k
  kept : t = { s with
    mgmt := { s.mgmt with conditions := s.mgmt.conditions ||| condBit 12 }
    portA := { link := s.portA.link.abandon, down := [], answers := []
               alert := if s.mgmt.conditions.getLsbD 12 then none
                 else alertAfterRise s.mgmt.config s.lines.nodeNumber.isSome s.tracker.clock 12
                   (s.mgmt.conditions ||| condBit 12) none }
    portB := { s.portB with link := s.portB.link.abandon, up := [], orders := t.portB.orders, burst := 0 }
    seq := t.seq }

theorem slotLost_awaiting : (s.slotLost k).order = .awaitingPlace ↔ (s.slot k).order = .awaitingPlace := by
  unfold State.slotLost
  dsimp only
  split
  · next h => rw [h.1]; decide
  · rfl

theorem clearLinks_cleared : LinksCleared s (clearLinks s) := by
  rw [clearLinks_eq]
  obtain ⟨slots, lost⟩ := loseAts_lost (s := s) slotIds_nodup
  generalize slotIds.foldl State.loseAt s = u at slots lost
  obtain ⟨placed, others, kept⟩ := placeAwaitings_placed (s := raise 12 u.pathEmptied) slotIds_nodup
  have slot (k : SlotId) : (raise 12 u.pathEmptied).slot k = s.slotLost k := (slots k).trans (if_pos (mem_slotIds k))
  have place (k : SlotId) : (raise 12 u.pathEmptied).order k = none := by fin_cases k <;> rfl
  have due (k : SlotId) : (raise 12 u.pathEmptied).PlaceDue k ↔
      (s.slot k).state = .running ∧ (s.slot k).order = .awaitingPlace := by
    unfold State.PlaceDue
    rw [slot, place, slotLost_awaiting, and_iff_left (rfl : (none : Option SlotOrder) = none)]
    rfl
  refine ⟨fun k running awaits => ?_, fun k not => ?_, ?_⟩
  · have := placed k (mem_slotIds k) ((due k).2 ⟨running, awaits⟩)
    rwa [slot] at this
  · have := others k fun both => not ((due k).1 both.2)
    exact ⟨this.2.trans (place k), this.1.trans (slot k)⟩
  · refine kept.trans ?_
    generalize u.seq = q at lost
    subst lost
    rfl

theorem LinksCleared.slot (h : LinksCleared s t) (k : SlotId) : ∃ o, t.slot k = { s.slot k with order := o } := by
  by_cases awaits : (s.slot k).state = .running ∧ (s.slot k).order = .awaitingPlace
  · exact ⟨_, (h.awaiting k awaits.1 awaits.2).1⟩
  · exact ⟨_, (h.others k awaits).2⟩

theorem LinksCleared.mgmt (h : LinksCleared s t) :
    t.mgmt = { s.mgmt with conditions := s.mgmt.conditions ||| condBit 12 } := by
  obtain ⟨-, -, kept⟩ := h
  rw [kept]

/-! ### The warm restart after a link clear (R187) -/

/-- What a warm restart leaves is made from these fields. -/
theorem restartEffects_congr {straps : BitVec 7} (tables : t.tables = s.tables) (clock : t.tracker.clock = s.tracker.clock)
    (config : t.mgmt.config = s.mgmt.config) (cause : ∀ k, (t.slot k).cause = (s.slot k).cause)
    (linkA : t.portA.link.restarted = s.portA.link.restarted) (linkB : t.portB.link.restarted = s.portB.link.restarted)
    (lines : t.lines = s.lines) (log : t.log = s.log) (fresh : t.fresh = s.fresh) (pending : t.pending = s.pending) :
    restartEffects straps t = restartEffects straps s := by
  have restarted (k : SlotId) : (t.slot k).restarted = (s.slot k).restarted := by
    unfold Slot.restarted
    rw [cause k]
  have s0 : t.seq.slots.s0.restarted = s.seq.slots.s0.restarted := restarted 0
  have s1 : t.seq.slots.s1.restarted = s.seq.slots.s1.restarted := restarted 1
  have s2 : t.seq.slots.s2.restarted = s.seq.slots.s2.restarted := restarted 2
  have s3 : t.seq.slots.s3.restarted = s.seq.slots.s3.restarted := restarted 3
  unfold restartEffects rebuildDerived State.map
  dsimp only
  rw [tables, clock, config, linkA, linkB, lines, log, fresh, pending, s0, s1, s2, s3]

theorem restarted_abandon (l : Link) : l.abandon.restarted = l.restarted := by
  unfold Link.restarted Link.abandon Link.flush
  simp

/-- A warm restart leaves the same after a link clear as without it. -/
theorem warmRestart_cleared (straps : BitVec 7) : warmRestart straps (clearLinks s) = warmRestart straps s := by
  have cleared := clearLinks_cleared (s := s)
  generalize clearLinks s = c at cleared
  have slot := cleared.slot
  obtain ⟨-, -, kept⟩ := cleared
  obtain ⟨slots, -, ended⟩ := terminateAll_dropped (s := s) (cause := .warmRestart) (.inr (.inr rfl))
  obtain ⟨slots', -, ended'⟩ := terminateAll_dropped (s := c) (cause := .warmRestart) (.inr (.inr rfl))
  have same : c.endsLog .warmRestart slotIds c.log = s.endsLog .warmRestart slotIds s.log := by
    have log : c.log = s.log := (congrArg State.log kept).trans rfl
    unfold State.endsLog
    rw [log]
    refine List.foldl_ext _ _ _ fun g k _ => ?_
    obtain ⟨o, hk⟩ := slot k
    have trap : c.trapOf k = s.trapOf k := by
      unfold State.trapOf State.programOf
      rw [hk, kept]
      rfl
    rw [hk, trap, kept]
    rfl
  unfold warmRestart
  have causes (k : SlotId) : ((terminateAll .warmRestart c).slot k).cause = ((terminateAll .warmRestart s).slot k).cause := by
    obtain ⟨o, hk⟩ := slot k
    rw [slots, slots', hk, apply_ite Slot.cause, apply_ite Slot.cause]
    rfl
  have log : (terminateAll .warmRestart c).log = (terminateAll .warmRestart s).log :=
    (congrArg State.log ended').trans (same.trans (congrArg State.log ended).symm)
  generalize terminateAll .warmRestart c = v at *
  generalize terminateAll .warmRestart s = u at *
  generalize c.seq = q, c.portB.orders = o at kept
  generalize u.seq = uq, u.portB.orders = uo at ended
  generalize v.seq = vq, v.portB.orders = vo at ended'
  subst kept ended ended'
  exact restartEffects_congr rfl rfl rfl causes (restarted_abandon _) (restarted_abandon _) rfl log rfl rfl

/-! ### The rows -/

theorem exec_linkClearInput (hp : s.powered = true) (micros : Nat) :
    exec (.linkClearInput micros) s = .next (if 1000 ≤ micros then linkClearFromInput s else s) := by
  refine (live_eq hp fun s => if pulseActs micros then linkClearFromInput s else s).trans
    (congrArg Host.Outcome.next (if_congr ?_ rfl rfl))
  exact decide_eq_true_iff

/-- A link clear that empties no answer of a RESTART. -/
theorem linkClearFromInput_plain (h : s.portA.answers.any Answer.restart = false) (settled : s.inputSettled = true) :
    linkClearFromInput s = clearLinks s := by
  refine (if_neg (by unfold State.restartQueued; rw [h]; exact Bool.false_ne_true)).trans (settleInput_keeps settled ?_)
  rw [clearLinks_cleared.mgmt]

/-- Settles O7. The warm restart makes anew all that the link clear touches; without it the link clear is the orders lost, the path
emptied, LINK CLEARED raised and the orders that awaited their places placed. -/
theorem linkClearEmptiesThePath : Obligations.LinkClearEmptiesThePath := by
  unfold Obligations.LinkClearEmptiesThePath
  refine ⟨fun micros s hp => ⟨fun h => ?_, fun h restart => ?_, fun h plain settled => ?_⟩, fun r s hp hv hpay hw plain => ?_⟩
  · rw [exec_linkClearInput hp, if_neg (by omega)]
  · rw [exec_linkClearInput hp, if_pos h, execWarmRestart_eq hp, ← warmRestart_cleared]
    exact congrArg Host.Outcome.next (if_pos restart)
  · refine ⟨clearLinks s, ?_, ?_⟩
    · rw [exec_linkClearInput hp, if_pos h, linkClearFromInput_plain plain settled]
    · obtain ⟨awaiting, others, kept⟩ := clearLinks_cleared (s := s)
      generalize clearLinks s = t at awaiting others kept ⊢
      generalize t.seq = q, t.portB.orders = o at kept
      subst kept
      exact ⟨rfl, rfl, rfl, fun p => by cases p <;> exact ⟨rfl, rfl, rfl⟩, rfl, rfl, rfl, rfl, rfl, awaiting, others, rfl, rfl,
        rfl, rfl, rfl, rfl, rfl, rfl⟩
  · have known : r.known = true := by
      unfold Request.known
      rw [Request.code_of_payload (code := 6) hpay (by decide)]
      decide
    have settled : s.inputSettled = true := by
      unfold State.inputSettled
      rw [hv]
      exact known
    refine ⟨clearLinks s, ?_, live_next hp ?_⟩
    · rw [exec_linkClearInput hp, if_pos le_rfl, linkClearFromInput_plain plain settled]
    · have waiting : (clearLinks s).mgmt.waiting = s.mgmt.waiting := by rw [clearLinks_cleared.mgmt]
      unfold serveLinkClear
      rw [hv]
      refine (if_pos (by unfold Request.isLinkClear; rw [hpay]; rfl)).trans ?_
      rw [answerAndLeave_eq r _ _ (by rw [waiting]; exact hw), Request.code_of_payload (code := 6) hpay (by decide)]
      rfl

end Sys2Proof.Machine
end

section
/-! PROOF. The change of the operating mode (O43). -/

namespace Sys2Proof.Machine

variable {s t : State} {q : Request} {m : Byte} {mode : Mode}

/-! ### Every run abandoned (R50) -/

/-- The log after these runs were abandoned. -/
def State.abandonLog (s : State) (rs : List Run) (g : EventLog) : EventLog :=
  rs.foldl (fun g x => g.offer s.mgmt.config.logMode (s.record .runAbandoned x.id x.lastFix (slotNumber x.bound) 1)) g

/-- These runs have left as abandoned. -/
structure Abandoned (rs : List Run) (s t : State) : Prop where
  slots : ∀ k, t.slot k = { s.slot k with
    bound := if rs.any (fun x => (s.slot k).bound == some x.id) then none else (s.slot k).bound }
  kept : t = { s with
    tracker := { s.tracker with
      runs := s.tracker.runs.filter (fun y => rs.all (fun x => y.id != x.id))
      abandoned := s.tracker.abandoned + BitVec.ofNat 32 rs.length }
    seq := t.seq
    log := s.abandonLog rs s.log }

theorem removeRuns_abandoned (rs : List Run) :
    Abandoned rs s (rs.foldl (fun s r => removeRun .abandoned r r.lastFix 1 s) s) := by
  induction rs generalizing s with
  | nil => exact ⟨fun _ => rfl, by simp [State.abandonLog]⟩
  | cons r rs ih =>
    rw [List.foldl_cons]
    obtain ⟨slots, kept⟩ := ih (s := removeRun .abandoned r r.lastFix 1 s)
    have slot (k : SlotId) : (removeRun .abandoned r r.lastFix 1 s).slot k = { s.slot k with
        bound := if (s.slot k).bound = some r.id then none else (s.slot k).bound } := by
      rw [removeRun_eq_takeOut, State.slot_congr (offer_seq ..), takeOut_slot]
    generalize rs.foldl (fun s r => removeRun .abandoned r r.lastFix 1 s) (removeRun .abandoned r r.lastFix 1 s) = t at *
    refine ⟨fun k => ?_, ?_⟩
    · rw [slots k, slot k]
      by_cases h : (s.slot k).bound = some r.id
      · simp [h]
      · simp [h]
    · have runs : (s.tracker.runs.filter (fun x => x.id != r.id)).filter (fun y => rs.all (fun x => y.id != x.id)) =
          s.tracker.runs.filter (fun y => (r :: rs).all (fun x => y.id != x.id)) := by
        rw [List.filter_filter]
        exact List.filter_congr fun y _ => Bool.and_comm ..
      have count : s.tracker.abandoned + 1#32 + BitVec.ofNat 32 rs.length =
          s.tracker.abandoned + BitVec.ofNat 32 (r :: rs).length := by
        rw [List.length_cons, BitVec.add_assoc, Nat.add_comm, BitVec.ofNat_add]
      rw [← runs, ← count]
      generalize t.seq = u at kept ⊢
      rw [removeRun_eq_takeOut, takeOut_eq] at kept
      exact kept

theorem abandonAll_abandoned : Abandoned s.tracker.runs s (abandonAll s) := removeRuns_abandoned _

/-! ### The row of SET MODE (R184) -/

theorem Mode.ofCode_code (mode : Mode) : Mode.ofCode mode.code = some mode := by cases mode <;> rfl

theorem Mode.ofCode_outside {n : Nat} (h : 2 < n) : Mode.ofCode n = none := by
  unfold Mode.ofCode
  split <;> first | omega | rfl

/-- A mode other than TRANSPARENT has its tables. -/
abbrev State.TablesInUse (s : State) : Prop := s.map ≠ [] ∧ s.tables.active.classes.any Option.isSome = true

theorem State.not_tablesInUse : ¬ s.TablesInUse ↔ s.mapInUse = false ∨ s.classesInUse = false := by
  rw [State.mapInUse_eq, decide_eq_false_iff_not, ← Bool.not_eq_true]
  exact not_and_or

theorem serveSetMode_code (h : m.toNat = mode.code) : serveSetMode [m] s =
    if mode = s.mgmt.mode then served [byte mode.code, byte mode.code] s
    else if mode ≠ .transparent ∧ (s.mapInUse = false ∨ s.classesInUse = false) then refuse stWrongMode s
    else served [byte s.mgmt.mode.code, byte mode.code] (changeMode mode s) := by
  unfold serveSetMode
  rw [show byteAt [m] 0 = mode.code from h, Mode.ofCode_code]

theorem byte_mode (h : m.toNat = mode.code) : byte mode.code = m := by rw [← h, byte_of_toNat]

section Row
variable (h : s.serving q 2 [m] = true)
include h

theorem setMode_outside (hm : 2 < m.toNat) : exec .setMode s = .next (s.answered q 2 4 []) := by
  refine request_refused (body := serveSetMode) h (by decide) rfl ?_
  unfold serveSetMode
  rw [show byteAt [m] 0 = m.toNat from rfl, Mode.ofCode_outside hm]
  rfl

theorem setMode_stands (hm : m.toNat = s.mgmt.mode.code) : exec .setMode s = .next (s.answered q 2 0 [m, m]) := by
  refine request_served (body := serveSetMode) h (by decide) rfl ?_
  rw [serveSetMode_code hm, if_pos rfl, byte_mode hm]

theorem setMode_wrong (hm : m.toNat = mode.code) (ne : mode ≠ s.mgmt.mode) (ht : mode ≠ .transparent) (hu : ¬ s.TablesInUse) :
    exec .setMode s = .next (s.answered q 2 5 []) := by
  refine request_refused (body := serveSetMode) h (by decide) rfl ?_
  rw [serveSetMode_code hm, if_neg ne, if_pos ⟨ht, State.not_tablesInUse.1 hu⟩]
  rfl

theorem setMode_changes (hm : m.toNat = mode.code) (ne : mode ≠ s.mgmt.mode) (ok : mode = .transparent ∨ s.TablesInUse)
    (ht : changeMode mode s = t) (hw : t.mgmt.waiting = s.mgmt.waiting) :
    exec .setMode s = .next (t.answered q 2 0 [byte s.mgmt.mode.code, m]) := by
  refine request_answers (body := serveSetMode) h (by decide) rfl ?_ hw
  have fine : ¬ (mode ≠ .transparent ∧ (s.mapInUse = false ∨ s.classesInUse = false)) := fun both =>
    ok.elim both.1 (State.not_tablesInUse.2 both.2)
  rw [serveSetMode_code hm, if_neg ne, if_neg fine, byte_mode hm, ht]
  rfl

end Row

/-! ### The changes of Table 9-5 -/

/-- GUARDED to MONITOR: the trains end. -/
theorem changeMode_monitor (hm : s.mgmt.mode = .guarded) : changeMode .monitor s =
    offer .modeChanged 0 255 255 (s.mgmt.mode.code * 256 + 1) ((terminateAll .modeChange s).setMode .monitor) := by
  unfold changeMode
  rw [hm]
  rfl

/-- The change to TRANSPARENT: the trains end, the runs are abandoned, and the records of the line take their initial values. -/
theorem changeMode_transparent (hm : s.mgmt.mode ≠ .transparent) : changeMode .transparent s =
    offer .modeChanged 0 255 255 (s.mgmt.mode.code * 256 + 0)
      ((resetRecords (abandonAll (terminateAll .modeChange s))).setMode .transparent) := by
  unfold changeMode
  dsimp only
  rw [if_neg hm, if_pos rfl, if_pos (Or.inr rfl)]
  rfl

/-- TRANSPARENT to another mode: the scan starts. -/
theorem changeMode_starts (hm : s.mgmt.mode = .transparent) (ht : mode ≠ .transparent) : changeMode mode s =
    offer .modeChanged 0 255 255 (s.mgmt.mode.code * 256 + mode.code) (startScan (s.setMode mode)) := by
  have quiet : ¬ (s.mgmt.mode = .guarded ∨ mode = .transparent) := fun both =>
    both.elim (fun e => nomatch hm.symm.trans e) ht
  unfold changeMode
  dsimp only
  rw [if_pos hm, if_neg ht, if_neg quiet]

/-- MONITOR to GUARDED changes the mode alone. -/
theorem changeMode_guarded (hm : s.mgmt.mode = .monitor) : changeMode .guarded s =
    offer .modeChanged 0 255 255 (s.mgmt.mode.code * 256 + 2) (s.setMode .guarded) := by
  unfold changeMode
  rw [hm]
  rfl

theorem valveReleased_point {ks : List SlotId} (v : ValveRec) : (s.valveReleased ks v).point = v.point := by
  unfold State.valveReleased
  split <;> rfl

theorem valveReleased_reserving {ks : List SlotId} {k : SlotId} (hk : k ∈ ks) (ha : (s.slot k).state ≠ .idle) (v : ValveRec) :
    (s.valveReleased ks v).reserving ≠ some k := by
  unfold State.valveReleased
  split
  · exact nofun
  · next h =>
    intro e
    refine h ?_
    rw [e]
    simp [hk, ha]

theorem runFreed_id {ks : List SlotId} (x : Run) : (s.runFreed ks x).id = x.id := by
  unfold State.runFreed
  split <;> rfl

/-- Settles O43. The row refuses or changes the mode; leaving GUARDED ends the trains, going to TRANSPARENT then takes every run out
as abandoned and brings the records to their initial values. -/
theorem modeChanges : Obligations.ModeChanges := by
  unfold Obligations.ModeChanges
  intro r m s h moved inUse ended dropped freed changed
  have toMonitor (e : m = 1) : m.toNat = Mode.monitor.code := by rw [e]; rfl
  have toGuarded (e : m = 2) : m.toNat = Mode.guarded.code := by rw [e]; rfl
  refine ⟨setMode_outside h, setMode_stands h, fun ne code hu => ?_, fun mode hs ht hm hu => ?_, fun hs hm hu => ?_,
    fun hs hm hu => ?monitor, fun hs hm => ?transparent⟩
  · obtain e | e := code
    · exact setMode_wrong h (toMonitor e) (fun same => ne (same ▸ toMonitor e)) nofun hu
    · exact setMode_wrong h (toGuarded e) (fun same => ne (same ▸ toGuarded e)) nofun hu
  · refine setMode_changes h hm (fun e => ht (e.trans hs)) (.inr hu) ((changeMode_starts hs ht).trans ?_) rfl
    rw [← hm]
    rfl
  · refine setMode_changes h (toGuarded hm) (by rw [hs]; nofun) (.inr hu) ((changeMode_guarded hs).trans ?_) rfl
    subst hm
    rfl
  case monitor =>
    obtain ⟨slots, orders, kept⟩ := terminateAll_dropped (s := s) (cause := .modeChange) (.inr (.inl rfl))
    have change := changeMode_monitor hs
    generalize terminateAll .modeChange s = u at slots orders kept change
    generalize u.seq = seq, u.portB.orders = os at kept
    subst kept
    refine ⟨_, setMode_changes h (toMonitor hm) (by rw [hs]; nofun) (.inr hu) change rfl, rfl, fun k hk => ?_, fun k hk => ?_,
      rfl, ?_, rfl, rfl, rfl, rfl, rfl, rfl⟩
    · exact ⟨(slots k).trans (if_neg fun both => both.2 hk), (orders k).trans (if_neg fun both => both.2 hk)⟩
    · refine ⟨(slots k).trans (if_pos ⟨mem_slotIds k, hk⟩), fun v hv => ?_, (orders k).trans (if_pos ⟨mem_slotIds k, hk⟩)⟩
      obtain ⟨w, -, rfl⟩ := List.mem_map.1 hv
      exact valveReleased_reserving (mem_slotIds k) hk w
    · subst hm
      rfl
  case transparent =>
    obtain ⟨slots, orders, kept⟩ := terminateAll_dropped (s := s) (cause := .modeChange) (.inr (.inl rfl))
    have change := changeMode_transparent hs
    generalize terminateAll .modeChange s = u at slots orders kept change
    obtain ⟨unbound, left⟩ := abandonAll_abandoned (s := u)
    generalize abandonAll u = v at unbound left change
    have ids (b : Option Nat) : u.tracker.runs.any (fun x => b == some x.id) = s.tracker.runs.any (fun x => b == some x.id) := by
      have runs : u.tracker.runs = s.tracker.runs.map (s.runFreed slotIds) :=
        (congrArg (fun t : State => t.tracker.runs) kept).trans rfl
      rw [runs, List.any_map]
      simp only [Function.comp_def, runFreed_id]
    have gone : u.tracker.runs.filter (fun y => u.tracker.runs.all (fun x => y.id != x.id)) = [] :=
      List.filter_eq_nil_iff.2 fun y hy all => by simpa using List.all_eq_true.1 all y hy
    rw [gone] at left
    generalize v.seq = vseq at left
    generalize u.seq = seq, u.portB.orders = os at kept
    subst kept left
    refine ⟨_, setMode_changes h (by rw [hm]; rfl) (Ne.symm hs) (.inl rfl) change rfl, rfl, fun k hk => ?_, fun k hk => ?_,
      ?_, ?_, rfl, rfl, rfl, rfl, rfl, rfl, ?_⟩
    · refine ⟨(orders k).trans (if_neg fun both => both.2 hk), (unbound k).trans ?_⟩
      have slot := (slots k).trans (if_neg fun both => both.2 hk)
      rw [ids, slot]
    · refine ⟨(orders k).trans (if_pos ⟨mem_slotIds k, hk⟩), (unbound k).trans ?_⟩
      have slot := (slots k).trans (if_pos ⟨mem_slotIds k, hk⟩)
      rw [ids, slot]
      exact congrArg (fun b => { dropped k with bound := b }) (ite_self none)
    · have count : (s.tracker.runs.map (s.runFreed slotIds)).length = s.tracker.runs.length := List.length_map ..
      rw [← count]
      rfl
    · show (s.interlock.valves.map (s.valveReleased slotIds)).map (fun v => ValveRec.initial v.point) = _
      rw [List.map_map]
      exact List.map_congr_left fun v _ => congrArg ValveRec.initial (valveReleased_point v)
    · subst hm
      rfl

end Sys2Proof.Machine
end

section
/-! PROOF. A VALVE STATE report at its valve (O34). -/

namespace Sys2Proof.Machine

variable {s t : State} {p : Nat} {v : ValveRec} {k : SlotId} {o : StepRec}

/-! ### The record (R102, R106, R108) -/

theorem isMovement_iff {old new : ValveState} : isMovement old new = true ↔
    ((new = .opening ∨ new = .closing) ∧ old ≠ new) ∨ (old = .opened ∧ new = .closed) ∨ (old = .closed ∧ new = .opened) := by
  simp [isMovement, or_assoc]

/-- The reported position is the target of the expected order. -/
def ValveRec.Meets (v : ValveRec) (st : ValveState) : Prop :=
  ∃ e, v.expected = some e ∧ ((e.target = .opened ∧ st = .opened) ∨ (e.target = .closed ∧ st = .closed))

theorem Target.state_beq {g : Target} {st : ValveState} :
    (g.state == st) = true ↔ (g = .opened ∧ st = .opened) ∨ (g = .closed ∧ st = .closed) := by
  cases g <;> cases st <;> decide

theorem ValveRec.meets_iff {st : ValveState} : v.expected.elim false (fun e => e.target.state == st) = true ↔ v.Meets st := by
  unfold ValveRec.Meets
  cases v.expected with
  | none => exact ⟨nofun, fun ⟨_, h, _⟩ => nomatch h⟩
  | some e =>
    refine Target.state_beq.trans ⟨fun h => ⟨e, rfl, h⟩, fun ⟨_, he, h⟩ => ?_⟩
    cases he
    exact h

theorem ValveRec.afterReport_meets {st : ValveState} (h : v.Meets st) (pct : Nat) (loc : Location) (tag : Nat) :
    v.afterReport st pct loc tag =
      { v with state := st, percent := pct, location := loc, lastTag := tag, expected := none, suspect := false } := by
  unfold ValveRec.afterReport
  rw [ValveRec.meets_iff.2 h]
  rfl

theorem ValveRec.afterReport_misses {st : ValveState} (h : ¬ v.Meets st) (pct : Nat) (loc : Location) (tag : Nat) :
    v.afterReport st pct loc tag = { v with state := st, percent := pct, location := loc, lastTag := tag } := by
  have not : v.expected.elim false (fun e => e.target.state == st) = false := Bool.eq_false_iff.2 (mt ValveRec.meets_iff.1 h)
  unfold ValveRec.afterReport
  rw [not]
  rfl

/-- The record alone after a report. -/
def State.reportedAt (s : State) (p : Nat) (payload : List Byte) : State :=
  s.updValve p (fun v => v.afterReport (.ofReport (byteAt payload 0)) (min 100 (byteAt payload 1))
    (.ofReport (byteAt payload 2)) (byteAt payload 3))

/-- The log after VALVE STATE CHANGED, when the report changes state or control. -/
def State.changeLog (s : State) (p : Nat) (v : ValveRec) (st : ValveState) (loc : Location) : EventLog :=
  if v.state ≠ st ∨ v.location ≠ loc then
    s.logWith (s.record .valveStateChanged 0 p (slotNumber v.reserving) (loc.code * 256 + v.state.code * 16 + st.code))
  else s.log

/-- A movement in REMOTE control that no order asked for (R108). -/
abbrev ValveRec.Uncommanded (v : ValveRec) (st : ValveState) (loc : Location) : Prop :=
  isMovement v.state st = true ∧ v.expected = none ∧ loc = .remote

/-- The record and the log after the first steps of a report. -/
def State.reportTaken (s : State) (p : Nat) (v : ValveRec) (st : ValveState) (loc : Location) (payload : List Byte) : State :=
  { s.reportedAt p payload with log := s.changeLog p v st loc }

theorem takeValveReport_eq (hv : s.valve p = some v) (payload : List Byte) {st : ValveState} {loc : Location}
    (hst : ValveState.ofReport (byteAt payload 0) = st) (hloc : Location.ofReport (byteAt payload 2) = loc) :
    takeValveReport p payload s =
      if v.Uncommanded st loc then
        offer .uncommandedMove 0 p 255 (v.state.code * 16 + st.code) (raise 8 (s.reportTaken p v st loc payload))
      else s.reportTaken p v st loc payload := by
  subst hst hloc
  unfold takeValveReport
  rw [hv]
  generalize hst : ValveState.ofReport (byteAt payload 0) = st
  generalize hloc : Location.ofReport (byteAt payload 2) = loc
  have record : s.updValve p (fun v => v.afterReport st (min 100 (byteAt payload 1)) loc (byteAt payload 3)) =
      s.reportedAt p payload := by
    unfold State.reportedAt
    rw [hst, hloc]
  dsimp only
  rw [record]
  have changed : (if v.state ≠ st || v.location ≠ loc then logValveChange p v.reserving v.state st loc (s.reportedAt p payload)
      else s.reportedAt p payload) = s.reportTaken p v st loc payload := by
    have test : (v.state ≠ st || v.location ≠ loc) = true ↔ v.state ≠ st ∨ v.location ≠ loc := by simp
    unfold State.reportTaken State.changeLog
    by_cases h : v.state ≠ st ∨ v.location ≠ loc
    · rw [if_pos (test.2 h), if_pos h]
      rfl
    · rw [if_neg (mt test.1 h), if_neg h]
      rfl
  rw [changed]
  refine if_congr ?_ rfl rfl
  rw [Bool.and_eq_true, Bool.and_eq_true, and_assoc, Option.isNone_iff_eq_none, beq_iff_eq]

/-! ### The hand-over (step 5) -/

/-- The current step of a slot that completes by the position of its valve. -/
theorem State.stepValveIn_iff {f : Action → Option ValveState} (hc : s.currentStep k = some o) (hp : o.operand = some p)
    (hv : s.valve p = some v) : s.stepValveIn k f = true ↔ f o.action = some v.state := by
  unfold State.stepValveIn State.believed
  rw [hc]
  dsimp only
  rw [hp]
  dsimp only [Option.elim]
  rw [hv]
  cases f o.action with
  | none => exact ⟨nofun, nofun⟩
  | some st =>
    rw [Option.some.injEq]
    exact beq_iff_eq.trans eq_comm

/-- A slot in RUNNING stands at a step of a valve. -/
def State.StandsAt (s : State) (p : Nat) (k : SlotId) (o : StepRec) : Prop :=
  (s.slot k).state = .running ∧ s.currentStep k = some o ∧ o.operand = some p

/-- The step's valve has the position that completes it. -/
def State.MeetsStep (s : State) (v : ValveRec) (k : SlotId) (o : StepRec) : Prop :=
  (o.action = .openValve ∧ (s.slot k).order = .delivered ∧ v.state = .opened) ∨
    (o.action = .closeValve ∧ (s.slot k).order = .delivered ∧ v.state = .closed) ∨
    (o.action = .verifyOpen ∧ v.state = .opened) ∨ (o.action = .verifyClosed ∧ v.state = .closed)

theorem standsAt_of_stepPoint (hr : (s.slot k).state = .running) (hp : s.stepPoint k = some p) :
    ∃ o, s.StandsAt p k o := by
  obtain ⟨o, ho, hq⟩ := Option.bind_eq_some_iff.1 hp
  exact ⟨o, hr, ho, hq⟩

theorem offerReport_skip (h : ∀ o, ¬ s.StandsAt p k o) : offerReport p s k = s := by
  refine if_neg fun ⟨hr, hp, _⟩ => ?_
  obtain ⟨o, ho⟩ := standsAt_of_stepPoint hr hp
  exact h o ho

/-- The report offered to a slot that stands at the valve. -/
theorem offerReport_stands (hv : s.valve p = some v) (h : s.StandsAt p k o) :
    (s.MeetsStep v k o → offerReport p s k = completeStep k s) ∧ (¬ s.MeetsStep v k o → offerReport p s k = s) := by
  obtain ⟨hr, hc, hq⟩ := h
  have point : s.stepPoint k = some p := by
    unfold State.stepPoint
    rw [hc]
    exact hq
  have test : ((s.slot k).state = .running ∧ s.stepPoint k = some p ∧
      (((s.slot k).order = .delivered ∧ s.stepValveIn k Action.target) ∨ s.stepValveIn k Action.verified)) ↔
      s.MeetsStep v k o := by
    rw [State.stepValveIn_iff hc hq hv, State.stepValveIn_iff hc hq hv, and_iff_right hr, and_iff_right point]
    unfold State.MeetsStep
    cases o.action <;> simp [Action.target, Action.verified, eq_comm]
  exact ⟨fun h => if_pos (test.2 h), fun h => if_neg (mt test.1 h)⟩

theorem standsAt_sequenced {j : SlotId} (h : Sequenced (· = k) s t) (hj : j ≠ k) (o : StepRec) :
    t.StandsAt p j o ↔ s.StandsAt p j o := by
  have slot := h.slots j hj
  have step : t.currentStep j = s.currentStep j := by
    unfold State.currentStep State.stepAt
    rw [slot, h.tables]
  unfold State.StandsAt
  rw [step, slot]

/-- Where one slot alone may stand at the valve, the report is offered to that slot. -/
theorem offerReports_alone (alone : ∀ j, j ≠ k → ∀ o, ¬ s.StandsAt p j o) :
    slotIds.foldl (offerReport p) s = offerReport p s k := by
  have skip (ks : List SlotId) (t : State) (h : ∀ j ∈ ks, ∀ o, ¬ t.StandsAt p j o) : ks.foldl (offerReport p) t = t := by
    induction ks with
    | nil => rfl
    | cons j js ih =>
      rw [List.foldl_cons, offerReport_skip (h j List.mem_cons_self)]
      exact ih fun l hl => h l (List.mem_cons_of_mem _ hl)
  have after_ : Sequenced (· = k) s (offerReport p s k) := by
    unfold offerReport
    dsimp only
    split
    · exact completeStep_sequenced _ _
    · exact .refl _ s
  obtain ⟨before, after, split, -⟩ := slotIds_split k
  have distinct := slotIds_nodup
  rw [split, List.nodup_append] at distinct
  obtain ⟨-, hk, apart⟩ := distinct
  rw [List.nodup_cons] at hk
  rw [split, List.foldl_append, List.foldl_cons,
    skip before s fun j hj => alone j (apart j hj k List.mem_cons_self),
    skip after _ fun j hj o => mt (standsAt_sequenced after_ (fun e => hk.1 (e ▸ hj)) o).1 (alone j (fun e => hk.1 (e ▸ hj)) o)]

/-! ### The takeover (R146) -/

/-- The slot is taken over by the valve that it reserved. -/
def State.TakenOver (s : State) (v : ValveRec) (k : SlotId) : Prop :=
  v.reserving = some k ∧ v.location = .localControl ∧
    ((s.slot k).state = .running ∨ (s.slot k).state = .spacing ∨ (s.slot k).state = .waitStart)

theorem takeoverTest_leaves (hv : s.valve p = some v) (h : ∀ k, ¬ s.TakenOver v k) : takeoverTest p s = s := by
  unfold takeoverTest
  rw [hv]
  dsimp only
  cases hr : v.reserving with
  | none => rfl
  | some k => exact if_neg fun both => h k ⟨hr, both.1, both.2⟩

theorem takeoverTest_takes (hv : s.valve p = some v) (h : s.TakenOver v k) : takeoverTest p s = terminateNow k .takeover s := by
  obtain ⟨hr, here, active⟩ := h
  unfold takeoverTest
  rw [hv]
  dsimp only
  rw [hr]
  exact if_pos ⟨here, active⟩

theorem terminateNow_takeover : terminateNow k .takeover s =
    (raise 10 (s.concluded k .takeover ((s.slot k).bound.getD 0) ((s.slot k).step.getD 255))).setSlot k { s.slot k with
      state := .observe, order := .none, endRequested := false, cause := some .takeover } := by
  refine (congrArg StepFlow.state (terminate_eq .takeover _)).trans ?_
  rw [afterTermination_takeover]
  rfl

theorem Location.ofReport_eq (n : Nat) : Location.ofReport n = if n = 0 then .remote else .localControl := by
  cases n <;> rfl

/-- Settles O34. The record and the log are those of the first steps, UNCOMMANDED MOVE apart; the hand-over is the takeover test and
then the offer to the one slot that may stand at the valve. -/
theorem valveReportUpdatesTheRecord : Obligations.ValveReportUpdatesTheRecord := by
  unfold Obligations.ValveReportUpdatesTheRecord
  refine ⟨fun p payload v s hv => ?record, fun p v s hv => ?handOver⟩
  case record =>
    intro st loc met moves uncommanded t
    have taken : t = _ := takeValveReport_eq hv payload (st := st) (loc := loc) rfl (Location.ofReport_eq _)
    have test : v.Uncommanded st loc ↔ uncommanded := by
      unfold ValveRec.Uncommanded
      rw [isMovement_iff]
    let w := v.afterReport st (min 100 (byteAt payload 1)) loc (byteAt payload 3)
    have reported : s.reportedAt p payload = s.updValve p
        (fun v => v.afterReport st (min 100 (byteAt payload 1)) loc (byteAt payload 3)) := by
      unfold State.reportedAt
      rw [Location.ofReport_eq]
      rfl
    have valve (q : Nat) : (s.reportTaken p v st loc payload).valve q = if q = p then some w else s.valve q := by
      refine (congrArg (fun u : State => u.valve q) reported).trans ((State.valve_updValve s p q
        (fun v => v.afterReport st (min 100 (byteAt payload 1)) loc (byteAt payload 3)) fun _ => rfl).trans ?_)
      refine ite_congr rfl (fun e => ?_) fun _ => rfl
      rw [e, hv]
      rfl
    have record : w.state = st ∧ w.percent = min 100 (byteAt payload 1) ∧ w.location = loc ∧ w.lastTag = byteAt payload 3 ∧
        w.reserving = v.reserving ∧ (met → w.expected = none ∧ w.suspect = false) ∧
        (¬ met → w.expected = v.expected ∧ w.suspect = v.suspect) := by
      refine ⟨rfl, rfl, rfl, rfl, rfl, fun h => ?_, fun h => ?_⟩
      · have meets : w = _ := ValveRec.afterReport_meets h _ _ _
        rw [meets]
        exact ⟨rfl, rfl⟩
      · have misses : w = _ := ValveRec.afterReport_misses h _ _ _
        rw [misses]
        exact ⟨rfl, rfl⟩
    by_cases h : uncommanded
    · rw [taken, if_pos (test.2 h), if_pos h, if_pos h]
      exact ⟨⟨w, (valve p).trans (if_pos rfl), record⟩, fun q hq => (valve q).trans (if_neg hq), rfl, rfl, rfl, rfl, rfl, rfl, rfl⟩
    · rw [taken, if_neg (mt test.1 h), if_neg h, if_neg h]
      exact ⟨⟨w, (valve p).trans (if_pos rfl), record⟩, fun q hq => (valve q).trans (if_neg hq), rfl, rfl, rfl, rfl, rfl, rfl, rfl⟩
  case handOver =>
    intro stands completes takenOver
    have stands_iff (k : SlotId) (o : StepRec) : stands k o ↔ s.StandsAt p k o := Iff.rfl
    have alone {k : SlotId} (h : ∀ j o, j ≠ k → (s.slot j).step.bind s.stepAt = some o → ¬ stands j o) :
        ∀ j, j ≠ k → ∀ o, ¬ s.StandsAt p j o := fun j hj o hs => h j o hj hs.2.1 hs
    refine ⟨fun calm none => ?_, fun k calm complete only => ?_, fun k taken only => ?_⟩
    · have still (k : SlotId) : offerReport p s k = s := by
        by_cases h : ∃ o, s.StandsAt p k o
        · obtain ⟨o, at_⟩ := h
          exact (offerReport_stands hv at_).2 fun meets => none k ⟨o, at_.2.1, at_, meets⟩
        · exact offerReport_skip (not_exists.1 h)
      unfold handReport
      rw [takeoverTest_leaves hv calm]
      exact foldl_keeps (· = s) (offerReport p) (fun t k e => by rw [e]; exact still k) _ s rfl
    · have here : takeoverTest p s = s := takeoverTest_leaves hv calm
      obtain ⟨o, ho, at_, meets⟩ := complete
      unfold handReport
      rw [here, offerReports_alone (alone only), (offerReport_stands hv at_).1 meets]
      cases hi : (s.slot k).step with
      | none => rw [hi] at ho; cases ho
      | some i => exact completeStep_eq hi
    · have ended := terminateNow_takeover (s := s) (k := k)
      have before := terminateNow_sequenced s k .takeover
      have slot : ((terminateNow k .takeover s).slot k).state = .observe := by rw [ended, State.slot_setSlot_same]
      have hands : handReport p s = terminateNow k .takeover s := by
        unfold handReport
        rw [takeoverTest_takes hv taken, offerReports_alone fun j hj o => mt (standsAt_sequenced before hj o).1 (alone only j hj o)]
        exact offerReport_skip fun o at_ => nomatch slot.symm.trans at_.1
      refine ⟨_, hands.trans ended, State.slot_setSlot_same .., fun j hj => ⟨?_, ?_⟩, ?_, rfl, rfl, rfl, rfl, rfl, rfl⟩
      · exact State.slot_setSlot_ne _ _ hj
      · exact State.order_setOrder_ne (s := { s with log := s.endLog k .takeover _ _ }) _ hj
      · exact State.order_setOrder_same (s := { s with log := s.endLog k .takeover _ _ }) _ _

end Sys2Proof.Machine
end

section
/-! PROOF. The match of a passage and its hand-off (O33). -/

namespace Sys2Proof.Machine

variable {s : State} {p dups count : Nat} {r : Run} {ahead behind : List Run}

/-! ### The tiers (R61) -/

/-- The tier of a match inside twice the band, or of a run that was lost. -/
def matchTier (pd : Nat) (r : Run) : Tier :=
  if r.state = .lost then .refound else if distance r.position pd ≤ r.band then .normal else .extended

theorem tierOf_far {pd : Nat} (hl : r.state ≠ .lost) (h : 2 * r.band < distance r.position pd) : tierOf pd r = none := by
  unfold tierOf
  rw [if_neg hl, if_neg (by omega), if_neg (by omega)]

theorem tierOf_near {pd : Nat} (h : r.state = .lost ∨ distance r.position pd ≤ 2 * r.band) :
    tierOf pd r = some (matchTier pd r) := by
  unfold tierOf matchTier
  by_cases hl : r.state = .lost
  · rw [if_pos hl, if_pos hl]
  · rw [if_neg hl, if_neg hl, if_pos (h.resolve_left hl)]
    exact (apply_ite some _ _ _).symm

/-! ### The foremost candidate (R60 to R63) -/

theorem orphan_eq (reason : Nat) : orphan p reason dups count s =
    { raise 1 s with log := s.logWith (s.record .passageOrphan 0 p 255 (reason * 4096 + dups * 256 + count)) } := rfl

theorem matchPassage_noCandidate (h : ∀ r ∈ s.tracker.runs, chainMm s.map p ≤ chainMm s.map r.lastFix) :
    matchPassage p dups count s = ⟨orphan p 0 dups count s, none⟩ := by
  have none : s.tracker.runs.find? (isCandidate s.map (chainMm s.map p)) = none :=
    List.find?_eq_none.2 fun r hr => by
      have := h r hr
      unfold isCandidate
      rw [decide_eq_true_eq]
      omega
  unfold matchPassage
  dsimp only
  rw [none]

section Candidate
variable (hr : s.tracker.runs = ahead ++ r :: behind) (ha : ∀ x ∈ ahead, chainMm s.map p ≤ chainMm s.map x.lastFix)
  (hc : chainMm s.map r.lastFix < chainMm s.map p)
include hr ha hc

theorem find?_candidate : s.tracker.runs.find? (isCandidate s.map (chainMm s.map p)) = some r := by
  rw [hr]
  refine List.find?_eq_some_iff_append.2 ⟨decide_eq_true hc, ahead, behind, rfl, fun x hx => ?_⟩
  have := ha x hx
  unfold isCandidate
  rw [Bool.not_eq_true', decide_eq_false_iff_not]
  omega

theorem matchPassage_far (h : tierOf (chainMm s.map p) r = none) :
    matchPassage p dups count s = ⟨orphan p 2 dups count s, none⟩ := by
  unfold matchPassage
  dsimp only
  rw [find?_candidate hr ha hc]
  dsimp only
  rw [h]

variable {t : Tier} (nodup : (s.tracker.runs.map Run.id).Nodup) (h : tierOf (chainMm s.map p) r = some t)
include nodup h

theorem matchPassage_overtaken (hb : ∃ x ∈ behind, chainMm s.map p < chainMm s.map x.lastFix) :
    matchPassage p dups count s = ⟨orphan p 3 dups count s, none⟩ := by
  unfold matchPassage
  dsimp only
  rw [find?_candidate hr ha hc]
  dsimp only
  rw [h]
  refine if_pos ?_
  rw [hr] at nodup ⊢
  rw [runsBehind_split (ne_of_nodup_split nodup).1, List.any_eq_true]
  obtain ⟨x, hx, lt⟩ := hb
  exact ⟨x, hx, decide_eq_true lt⟩

theorem matchPassage_fixes (hb : ∀ x ∈ behind, chainMm s.map x.lastFix ≤ chainMm s.map p) :
    matchPassage p dups count s = ⟨fixRun p dups count t r s, some r.id⟩ := by
  unfold matchPassage
  dsimp only
  rw [find?_candidate hr ha hc]
  dsimp only
  rw [h]
  refine if_neg ?_
  rw [hr] at nodup ⊢
  rw [runsBehind_split (ne_of_nodup_split nodup).1, List.any_eq_true]
  rintro ⟨x, hx, lt⟩
  exact absurd (of_decide_eq_true lt) (not_lt.2 (hb x hx))

end Candidate

/-! ### The fix (R64 to R67) -/

/-- The run table after a fix, the kinds of the run recorded. -/
def State.fixedRuns (s : State) (ahead behind : List Run) (p : Nat) (t : Tier) (r : Run) : List Run :=
  ahead ++ (s.fixedRun p t r).afterEvent s.mgmt.config.alarmMask (matchSlip s.map (chainMm s.map p) t r).2 ::
    drawBack (chainMm s.map p) behind

theorem fixRun_eq (hr : s.tracker.runs = ahead ++ r :: behind) (nodup : (s.tracker.runs.map Run.id).Nodup) (t : Tier) :
    fixRun p dups count t r s = alarmOf (s.fixedRun p t r) (matchSlip s.map (chainMm s.map p) t r).2
      { s with
        tracker := { s.tracker with runs := s.fixedRuns ahead behind p t r }
        log := s.logWith (s.record .passageMatched r.id p (slotNumber r.bound) (t.code * 4096 + dups * 256 + count)) } := by
  rw [hr] at nodup
  obtain ⟨ha, hb⟩ := ne_of_nodup_split nodup
  have drawn : ∀ x ∈ drawBack (chainMm s.map p) behind, x.id ≠ (s.fixedRun p t r).id := by
    intro x hx
    obtain ⟨y, hy, rfl⟩ := List.mem_map.1 hx
    have id : (if chainMm s.map p < y.position then { y with position := chainMm s.map p } else y).id = y.id := by split <;> rfl
    rw [id]
    exact hb y hy
  have runs : (fixInTable r.id (chainMm s.map p) (fun _ => s.fixedRun p t r) s.tracker.runs).map (fun x =>
      if x.id = (s.fixedRun p t r).id then
        (s.fixedRun p t r).afterEvent s.mgmt.config.alarmMask (matchSlip s.map (chainMm s.map p) t r).2 else x) =
      s.fixedRuns ahead behind p t r := by
    rw [hr, fixInTable_split ha]
    exact map_update_split (r := s.fixedRun p t r) ha drawn _
  unfold fixRun
  rw [endRunEvent_eq, ← runs]
  rfl

/-- A match raises no ZONE. -/
theorem matchSlip_zone (m : List Point) (pd : Nat) (t : Tier) (r : Run) : (matchSlip m pd t r).2 &&& anZone = 0#11 := by
  have adapt : (adaptSlip m pd r).2 = 0#11 ∨ (adaptSlip m pd r).2 = anSlipclamp := by
    unfold adaptSlip anIf
    split
    · exact .inl rfl
    · dsimp only
      split
      · exact .inr rfl
      · exact .inl rfl
  unfold matchSlip
  cases t
  case normal => obtain h | h := adapt <;> simp only [h] <;> rfl
  case extended =>
    obtain h | h := adapt <;> simp only [h] <;> split <;> rfl
  case refound => exact BitVec.zero_and

theorem matchTier_code (pd : Nat) (r : Run) : (matchTier pd r).code =
    if r.state = .lost then 2 else if distance r.position pd ≤ r.band then 0 else 1 := by
  unfold matchTier
  split
  · rfl
  · split <;> rfl

/-- The kinds that a match raises, and its slip, by the run. -/
theorem matchSlip_eq (m : List Point) (pd : Nat) (r : Run) :
    (matchSlip m pd (matchTier pd r) r).2 = (if r.state = .lost then 0#11
      else (adaptSlip m pd r).2 |||
        (if distance r.position pd ≤ r.band then 0#11 else if r.position < pd then anEarly else anLate)) ∧
    (matchSlip m pd (matchTier pd r) r).1 = if r.state = .lost then r.slip else (adaptSlip m pd r).1 := by
  unfold matchTier
  by_cases hl : r.state = .lost
  · rw [if_pos hl, if_pos hl, if_pos hl]
    exact ⟨rfl, rfl⟩
  · rw [if_neg hl, if_neg hl, if_neg hl]
    by_cases near : distance r.position pd ≤ r.band
    · rw [if_pos near, if_pos near, BitVec.or_zero]
      exact ⟨rfl, rfl⟩
    · rw [if_neg near, if_neg near]
      exact ⟨rfl, rfl⟩

/-! ### The intake for matching (R59) -/

theorem takePassage_matches {payload : List Byte} {d : DetectorRec} (hd : s.detector p = some d) (h0 : d.holdOff = 0)
    (hdir : byteAt payload 2 ≠ 1) {channel hold : Nat} (hp : detectorPart s.map p = some (channel, hold)) :
    takePassage p payload s = matchPassage p d.duplicates (byteAt payload 1)
      (s.updDetector p (fun d => { d with holdOff := hold, duplicates := 0 })) := by
  unfold takePassage
  rw [hd, hp]
  dsimp only
  rw [if_neg hdir, if_neg (by omega)]
  rfl

/-! ### The hand-off (R68, R140) -/

/-- The slot stands in RUNNING at AWAIT PASSAGE at the detector. -/
def State.AwaitsAt (s : State) (p : Nat) (k : SlotId) : Prop :=
  (s.slot k).state = .running ∧ ∃ o, s.currentStep k = some o ∧ o.action = .awaitPassage ∧ o.operand = some p

theorem awaitsPassage_iff {k : SlotId} : s.awaitsPassage p k = true ↔ s.AwaitsAt p k := by
  unfold State.awaitsPassage State.AwaitsAt State.stepPoint
  cases s.currentStep k with
  | none => simp
  | some o => simp [and_assoc]

theorem completeStep_awaits {k : SlotId} {u : State} (h : s.AwaitsAt p k) (hu : (u.slot k).step = (s.slot k).step) :
    completeStep k u = startStep k ((s.slot k).step.getD 0 + 1) u := by
  obtain ⟨-, o, ho, -⟩ := h
  cases hi : (s.slot k).step with
  | none =>
    unfold State.currentStep at ho
    rw [hi] at ho
    cases ho
  | some i => exact completeStep_eq (hu.trans hi)

theorem handPassage_bound {id : Nat} (hr : s.run id = some r) {k : SlotId} (hb : r.bound = some k) :
    handPassage p id s = if s.awaitsPassage p k then completeStep k s else s := by
  unfold handPassage
  rw [hr, Option.bind_some, hb]

theorem handPassage_unbound {id : Nat} (hr : s.run id = some r) (hb : r.bound = none) {o : Option SlotId}
    (ho : slotIds.find? (fun k => s.awaitsPassage p k && (s.slot k).bound.isNone) = o) :
    handPassage p id s = o.elim s (fun k => completeStep k (bindSlot k id s)) := by
  unfold handPassage
  rw [hr, Option.bind_some, hb]
  dsimp only
  rw [ho]
  cases o <;> rfl

/-- Settles O33. The foremost candidate decides the branch of the match; the fix is one replacement in the run table and the alarm
of the kinds it raised. -/
theorem passageFixesTheForemostCandidate : Obligations.PassageFixesTheForemostCandidate := by
  unfold Obligations.PassageFixesTheForemostCandidate
  refine ⟨fun p dups count s nodup => ?matching, fun p payload d s hd h0 hdir channel hold hpart => ?intake,
    fun p id r s hr => ?handOff⟩
  case matching =>
    intro pd orphaned
    refine ⟨matchPassage_noCandidate, fun ahead r behind hr ha hc => ?candidate⟩
    intro far
    refine ⟨fun hl hf => matchPassage_far hr ha hc (tierOf_far hl hf),
      fun near hb => matchPassage_overtaken hr ha hc nodup (tierOf_near near) hb, fun near hb => ?fix⟩
    intro raised tier mask mode alarm matched logged freezes t
    obtain ⟨kinds, slip⟩ := matchSlip_eq s.map pd r
    have zone := matchSlip_zone s.map pd (matchTier pd r) r
    have fixes := matchPassage_fixes (dups := dups) (count := count) hr ha hc nodup (tierOf_near near) hb
    have made := fixRun_eq (p := p) (dups := dups) (count := count) hr nodup (matchTier pd r)
    change _ = alarmOf (s.fixedRun p (matchTier pd r) r) (matchSlip s.map pd (matchTier pd r) r).2 _ at made
    rw [matchTier_code, kinds] at made
    rw [kinds] at zone
    change raised &&& anZone = 0#11 at zone
    let u : State := { s with
      tracker := { s.tracker with runs := s.fixedRuns ahead behind p (matchTier pd r) r }
      log := matched }
    change _ = alarmOf _ raised u at made
    have taken : t = alarmOf (s.fixedRun p (matchTier pd r) r) raised u := (congrArg Matched.state fixes).trans made
    have log_ : u.alarmLog (s.fixedRun p (matchTier pd r) r) raised = logged := by
      unfold State.alarmLog
      rw [if_pos zone]
      rfl
    have freezesIff : u.AlarmFreezes raised ↔ freezes := by
      show (_ ∧ _ ∧ _ ∧ matched.frozen = false) ↔ _
      rw [show matched.frozen = s.log.frozen from EventLog.offer_frozen _ _ _]
    obtain ⟨mgmt, log⟩ := alarmOf_spec (s := u) (r := s.fixedRun p (matchTier pd r) r) (raised := raised)
    rw [log_, if_congr freezesIff rfl rfl] at log
    rw [if_congr freezesIff rfl rfl] at mgmt
    have reported := alarmOf_reported u (s.fixedRun p (matchTier pd r) r) raised
    rw [taken]
    refine ⟨log, mgmt, reported.seq, reported.matcher, reported.interlock, reported.scan, reported.tables, ?_, reported.portB,
      reported.lines, (s.fixedRun p (matchTier pd r) r).afterEvent mask raised, congrArg Matched.run fixes, ?_,
      rfl, rfl, rfl, rfl, rfl, rfl, rfl, rfl, rfl, rfl, rfl, rfl, rfl, rfl, rfl, slip, rfl, rfl, rfl⟩
    · rw [reported.tracker]
    · rw [reported.tracker]
      show s.fixedRuns ahead behind p (matchTier pd r) r = _
      unfold State.fixedRuns
      rw [kinds]
      rfl
  case intake =>
    have reloaded (q : Nat) := s.detector_updDetector p q (fun d => { d with holdOff := hold, duplicates := 0 }) fun _ => rfl
    refine ⟨_, takePassage_matches hd h0 hdir hpart, rfl, ?_, fun q hq => (reloaded q).trans (if_neg hq)⟩
    rw [reloaded, if_pos rfl, hd]
    rfl
  case handOff =>
    intro awaits after
    have awaits_iff (k : SlotId) : s.awaitsPassage p k = true ↔ awaits k := awaitsPassage_iff
    refine ⟨fun k hb => ⟨fun h => ?_, fun h => ?_⟩, fun hb => ⟨fun none => ?_, fun k h unbound first => ?_⟩⟩
    · rw [handPassage_bound hr hb, if_pos ((awaits_iff k).2 h)]
      exact completeStep_awaits (p := p) h rfl
    · rw [handPassage_bound hr hb, if_neg (mt (awaits_iff k).1 h)]
    · refine handPassage_unbound hr hb (o := .none) (List.find?_eq_none.2 fun k _ both => none k ?_)
      rw [Bool.and_eq_true, awaits_iff, Option.isNone_iff_eq_none] at both
      exact both
    · have found : slotIds.find? (fun k => s.awaitsPassage p k && (s.slot k).bound.isNone) = some k := by
        obtain ⟨before, behind, split, lower⟩ := slotIds_split k
        refine List.find?_eq_some_iff_append.2 ⟨?_, before, behind, split, fun j hj => ?_⟩
        · rw [Bool.and_eq_true, awaits_iff, Option.isNone_iff_eq_none]
          exact ⟨h, unbound⟩
        · rw [Bool.not_eq_true', ← Bool.not_eq_true, Bool.and_eq_true, awaits_iff, Option.isNone_iff_eq_none]
          exact first j (lower j hj)
      refine (handPassage_unbound hr hb found).trans (completeStep_awaits (p := p) (s := s) h ?_)
      exact (congrArg Slot.step (State.slot_setSlot_same s k { s.slot k with bound := some id })).trans rfl

end Sys2Proof.Machine
end
